-- ==== Sys2Proof/Word.lean ====
section
/-!
DEFINITION. The two word types of the block: the exact rational `Q` of spec/00_scope R9, which every
voltage, time, rate, level and ramp is, and the 8-bit command word of spec/30_encoding R80, the only
thing of this hardware the spec treats as bits.
-/

namespace Sys2Proof

/-- R9: the exact rational numbers, the reference number format (`NUM_FORMAT`, log 1). -/
abbrev Q := Rat

/-- R80, R81: one command word, format `H8`; bit 0 is the least significant bit (R10). -/
abbrev CmdWord := BitVec 8

end Sys2Proof
end

