-- ==== Sys2Proof/Config.lean ====
section
/-!
DEFINITION. What an implementation fixes and the reference leaves open: the two configuration
functions `EXP2` and `TANH` of spec/40_primitive_cells R111 (D4, U8, log 3). Each is an opaque
constant with no body. Nothing is known of it but the properties R111 requires of it, which it
carries with it. The two witnesses below only show that functions with those properties exist.
-/

namespace Sys2Proof

/-- R111: a function fit to stand for `x ↦ 2^x`. -/
structure Exp2Fun where
  fn : Q → Q
  /-- `EXP2(n) = 2^n` exactly for every integer `n`. -/
  at_int : ∀ n : Int, fn (n : Q) = (2 : Q) ^ n
  /-- `EXP2(x) > 0`. -/
  pos : ∀ x, 0 < fn x
  /-- `EXP2` is non-decreasing. -/
  mono : ∀ x y, x ≤ y → fn x ≤ fn y

/-- R111: a function fit to stand for the hyperbolic tangent. -/
structure TanhFun where
  fn : Q → Q
  /-- `TANH(0) = 0`. -/
  at_zero : fn 0 = 0
  /-- `TANH(−x) = −TANH(x)`. -/
  odd : ∀ x, fn (-x) = -fn x
  /-- `−1 ≤ TANH(x)`. -/
  lower : ∀ x, -1 ≤ fn x
  /-- `TANH(x) ≤ 1`. -/
  upper : ∀ x, fn x ≤ 1
  /-- `TANH` is non-decreasing. -/
  mono : ∀ x y, x ≤ y → fn x ≤ fn y

/-- A function with the properties of `Exp2Fun`: they are not contradictory. -/
def Exp2Fun.witness : Exp2Fun where
  fn x := (2 : Q) ^ ⌊x⌋
  at_int n := by simp
  pos x := by positivity
  mono x y h := zpow_le_zpow_right₀ (by norm_num) (Int.floor_le_floor h)

/-- A function with the properties of `TanhFun`: they are not contradictory. -/
def TanhFun.witness : TanhFun where
  fn x := max (-1) (min x 1)
  at_zero := by norm_num
  odd x := by
    rcases le_total x 1 with h | h <;> rcases le_total (-1) x with h' | h' <;>
      simp [max_def, min_def] <;> split_ifs <;> linarith
  lower x := le_max_left _ _
  upper x := max_le (by norm_num) (min_le_right _ _)
  mono x y h := max_le_max le_rfl (min_le_min h le_rfl)

/-- The implementation's `EXP2`; free but for `Exp2Fun`'s properties. -/
opaque Config.exp2Choice (fits : Inhabited Exp2Fun) : Exp2Fun

/-- The implementation's `TANH`; free but for `TanhFun`'s properties. -/
opaque Config.tanhChoice (fits : Inhabited TanhFun) : TanhFun

/-- R111: `EXP2`. -/
def Config.exp2 (x : Q) : Q := (Config.exp2Choice ⟨Exp2Fun.witness⟩).fn x

/-- R111: `TANH`. -/
def Config.tanh (x : Q) : Q := (Config.tanhChoice ⟨TanhFun.witness⟩).fn x

theorem Config.exp2_int (n : Int) : Config.exp2 (n : Q) = (2 : Q) ^ n :=
  (Config.exp2Choice ⟨Exp2Fun.witness⟩).at_int n

theorem Config.exp2_pos (x : Q) : 0 < Config.exp2 x :=
  (Config.exp2Choice ⟨Exp2Fun.witness⟩).pos x

theorem Config.exp2_mono {x y : Q} (h : x ≤ y) : Config.exp2 x ≤ Config.exp2 y :=
  (Config.exp2Choice ⟨Exp2Fun.witness⟩).mono x y h

theorem Config.tanh_zero : Config.tanh 0 = 0 :=
  (Config.tanhChoice ⟨TanhFun.witness⟩).at_zero

theorem Config.tanh_neg (x : Q) : Config.tanh (-x) = -Config.tanh x :=
  (Config.tanhChoice ⟨TanhFun.witness⟩).odd x

theorem Config.neg_one_le_tanh (x : Q) : -1 ≤ Config.tanh x :=
  (Config.tanhChoice ⟨TanhFun.witness⟩).lower x

theorem Config.tanh_le_one (x : Q) : Config.tanh x ≤ 1 :=
  (Config.tanhChoice ⟨TanhFun.witness⟩).upper x

theorem Config.tanh_mono {x y : Q} (h : x ≤ y) : Config.tanh x ≤ Config.tanh y :=
  (Config.tanhChoice ⟨TanhFun.witness⟩).mono x y h

end Sys2Proof
end

