-- ==== Sys2Proof/Syntax.lean ====
section
/-!
DEFINITION. The commands of the block as data: the operand bundle of each command (spec/30_encoding
R84 to R87), the instruction type `Instr` with one constructor per row of spec/opcode_table.json,
the operand ports that stand beside the command word, and the clock edge the host presents.

An operand field's default is what spec/30_encoding R92 gives an operand that is left out: 0, false,
or a list of zeros.
-/

namespace Sys2Proof

/-- R87: operands of `GWR`. -/
structure GwrOps where
  /-- step -/
  s : Nat := 0
  /-- column -/
  c : Nat := 0
  level : Q := 0
  deriving DecidableEq, Repr

/-- R84: operands of `TICK.VOICE v`. -/
structure VoiceOps where
  dt : Q := 0
  sr : Q := 0
  trigConn : Bool := false
  trigIn : Q := 0
  trigParam : Q := 0
  lengthParam : Q := 0
  deriving DecidableEq, Repr

/-- R85, operands 0 to 9: the bundle common to the five effect commands. -/
structure FxOps where
  dt : Q := 0
  sr : Q := 0
  inConn : Bool := false
  outConn : Bool := false
  /-- `in`, the signal input voltage -/
  inp : Q := 0
  param : Q := 0
  cvConn : Bool := false
  cv : Q := 0
  att : Q := 0
  wet : Q := 0
  deriving DecidableEq, Repr

/-- R85, operands 10 and 11: the draws, which exist only for `GLITCH` and `CROP`. -/
structure FxDraws where
  uStart : Q := 0
  uLen : Q := 0
  deriving DecidableEq, Repr

/-- R86: operands of `TICK.KLOK`. -/
structure KlokOps where
  dt : Q := 0
  sr : Q := 0
  run : Bool := false
  bpm : Q := 0
  deriving DecidableEq, Repr

/-- R86: operands of `TICK.SECU`; `uCell` holds `u_cell[s][c]` at the cell's linear address
`5 × s + c` (R61). -/
structure SecuOps where
  dt : Q := 0
  sr : Q := 0
  trigIn : Q := 0
  rstIn : Q := 0
  randIn : Q := 0
  randBtn : Q := 0
  sparse : Q := 0
  prob : Q := 0
  probCv : Q := 0
  nsteps : Nat := 0
  outConn : Vector Bool 5 := Vector.replicate 5 false
  uCell : Vector Q 40 := Vector.replicate 40 0
  uProb : Q := 0
  uStep : Q := 0
  deriving DecidableEq, Repr

/-- R87: operands of `TICK.SCENER`; `alert[s][j]` is marker `j` of scene `s`, and `inp` holds
`in[scene*5 + column]` (R62). -/
structure ScenerOps where
  dt : Q := 0
  sr : Q := 0
  trigIn : Q := 0
  rstIn : Q := 0
  rstBtn : Q := 0
  nscenes : Nat := 0
  len : Vector Nat 6 := Vector.replicate 6 0
  alert : Vector (Vector Q 2) 6 := Vector.replicate 6 (Vector.replicate 2 0)
  loop : Bool := false
  ttime : Q := 0
  inp : Vector Q 30 := Vector.replicate 30 0
  deriving DecidableEq, Repr

/-- R13, R87, R252: operands of `TICK.MIXBUS`. R13 says that `dt` and `sr` are operands of every tick; R87
and R252 list `conn` and `vout` for this one, and no ruling settles the two. DESIGN CHOICE: the bundle
carries all four, so that R88's `dt ≥ 0` and `sr > 0` apply; no rule of the mix bus uses the two (log 19). -/
structure MixOps where
  dt : Q := 0
  sr : Q := 0
  conn : Vector Bool 5 := Vector.replicate 5 false
  vout : Vector Q 5 := Vector.replicate 5 0
  deriving DecidableEq, Repr

/-- R82: the commands, each with its operand bundle (one constructor per row of
spec/opcode_table.json). -/
inductive Instr where
  | nop
  | reset
  | gwr (b : GwrOps)
  | tickVoice0 (b : VoiceOps)
  | tickVoice1 (b : VoiceOps)
  | tickVoice2 (b : VoiceOps)
  | tickVoice3 (b : VoiceOps)
  | tickVoice4 (b : VoiceOps)
  | tickBitcrush (b : FxOps)
  | tickDecimate (b : FxOps)
  | tickDistort (b : FxOps)
  | tickGlitch (b : FxOps) (d : FxDraws)
  | tickCrop (b : FxOps) (d : FxDraws)
  | tickKlok (b : KlokOps)
  | tickSecu (b : SecuOps)
  | tickScener (b : ScenerOps)
  | tickMixbus (b : MixOps)
  deriving DecidableEq, Repr

/-- R81: every operand travels beside the word, as a named port. The ports of all bundles; a command
samples the ports of its own bundle and no others (log 6). -/
structure OperandPorts where
  gwr : GwrOps := { }
  voice : VoiceOps := { }
  fx : FxOps := { }
  draws : FxDraws := { }
  klok : KlokOps := { }
  secu : SecuOps := { }
  scener : ScenerOps := { }
  mixbus : MixOps := { }
  deriving DecidableEq, Repr

/-- R80, R290: what the host presents at one clock edge. -/
structure ClockEdge where
  /-- R290: the synchronous reset input. -/
  rst : Bool := false
  /-- R80: the edge carries a command. -/
  cmdValid : Bool := false
  cmd : CmdWord := 0
  ports : OperandPorts := { }
  deriving DecidableEq, Repr

/-- R88: the precondition an operand breaks; a command that breaks one has no meaning in the spec and
a model refuses it. -/
inductive OperandProblem where
  /-- `dt ≥ 0` -/
  | negativeDt
  /-- `sr > 0` -/
  | sampleRateNotPositive
  /-- every draw `u` satisfies `0 ≤ u < 1` -/
  | drawOutOfRange
  /-- `TICK.VOICE`: `length_param < 7` -/
  | lengthParamTooLarge
  /-- `TICK.KLOK`: `bpm > 0` when `run = 1` -/
  | bpmNotPositive
  /-- `TICK.SECU`: `nsteps` in 1..8 -/
  | stepCountOutOfRange
  /-- `TICK.SCENER`: `nscenes` in 1..6 -/
  | sceneCountOutOfRange
  /-- `TICK.SCENER`: `len[0] + ... + len[nscenes−1] ≥ 1` -/
  | noSceneLength
  /-- `GWR`: `s` in 0..7, `c` in 0..4 -/
  | gridIndexOutOfRange
  deriving DecidableEq, Repr

end Sys2Proof
end

