-- ==== Sys2Proof/Machine/Constants.lean ====
section
/-!
DEFINITION. The constants of spec/00_scope R7 (given by the document) and R8 (decided by the spec),
each once and under the spec's name.
-/

namespace Sys2Proof.Machine

/-- R7 `CAP`: capacity of the glitch buffer, in samples. -/
def CAP : Nat := 24000
/-- R7 `CLIP_RATIO`: attack fraction of the envelope. -/
def CLIP_RATIO : Q := 1 / 50
/-- R7 `GATE_BASE`: gateRatio = 7 − length parameter. -/
def GATE_BASE : Q := 7
/-- R7 `OSC_HZ`: base rate of the oscillator ramp. -/
def OSC_HZ : Q := 10
/-- R7 `BTN_TH`: a button is pressed when its value is at or above this. -/
def BTN_TH : Q := 1 / 100
/-- R7 `GRID_TH`: a grid cell is on when its level is at or above this. -/
def GRID_TH : Q := 1 / 10
/-- R7 `LOCK_DIV`: lockout reload = sampleRate / 4. -/
def LOCK_DIV : Q := 4
/-- R7 `PULSE_S`: master and reset pulse length of the clock divider, in seconds. -/
def PULSE_S : Q := 1 / 1000
/-- R7 `CV_SCALE`: scaling of an effect's CV input. -/
def CV_SCALE : Q := 1 / 10
/-- R7 `BC_BITS`: bit depth of the bitcrusher. -/
def BC_BITS : Q := 8
/-- R7 `BC_OFF`: offset of the bitcrusher's intensity. -/
def BC_OFF : Q := 1 / 5
/-- R7 `DEC_MAX`: longest hold of the decimator, in ticks. -/
def DEC_MAX : Q := 32
/-- R7 `DRIVE_MAX`: largest drive of the distorter. -/
def DRIVE_MAX : Q := 10
/-- R7 `GL_SHRINK`: how far the intensity shortens a glitch window. -/
def GL_SHRINK : Q := 9 / 10
/-- R7 `CROP_GAIN`: gain inside a crop window. -/
def CROP_GAIN : Q := 1 / 100
/-- R7 `CROP_P`: crop start probability per unit of intensity. -/
def CROP_P : Q := 1 / 1000
/-- R7 `CROP_S`: longest crop window, in seconds. -/
def CROP_S : Q := 1 / 10
/-- R7 `KA[0..4]`: exponents of the voices' primary envelopes. -/
def KA : Vector Nat 5 := #v[2, 2, 10, 2, 2]
/-- R7 `KB[1]`: exponent of the snare's noise-layer envelope. -/
def KB1 : Nat := 6
/-- R8 `ED_HI`: upper threshold of the edge detector, in volts. -/
def ED_HI : Q := 1
/-- R8 `ED_LO`: lower threshold of the edge detector, in volts. -/
def ED_LO : Q := 0
/-- R8 `V_GATE`: high level of a clock, divider, reset or alert output, in volts. -/
def V_GATE : Q := 10
/-- R8 `ALERT_S`: alert pulse length, in seconds. -/
def ALERT_S : Q := 1 / 1000

end Sys2Proof.Machine
end

