-- ==== Sys2Proof/Machine/Operands.lean ====
section
/-!
DEFINITION. The operand forms: which operand values are legal (spec/30_encoding R88), for each bundle
as the first precondition it breaks, the scene sums and scene input index the operands are read
through (spec/20_memory R62, spec/46_scene_crossfader R224), and the bundle of R92's defaults.
-/

namespace Sys2Proof.Machine

/-- R88: `dt ≥ 0` and `sr > 0`, of every bundle that carries them. -/
def rateProblem (dt sr : Q) : Option OperandProblem :=
  if dt < 0 then some .negativeDt
  else if sr ≤ 0 then some .sampleRateNotPositive
  else none

/-- R88: a draw `u` satisfies `0 ≤ u < 1`. -/
def isDraw (u : Q) : Bool := decide (0 ≤ u) && decide (u < 1)

/-- R88: every draw of the bundle is in `[0,1)`. -/
def drawsProblem (us : List Q) : Option OperandProblem :=
  if us.all isDraw then none else some .drawOutOfRange

/-- R88: what makes the operands of `GWR` illegal. -/
def gwrProblem (b : GwrOps) : Option OperandProblem :=
  if b.s ≤ 7 ∧ b.c ≤ 4 then none else some .gridIndexOutOfRange

/-- R88: what makes the operands of `TICK.VOICE` illegal. -/
def voiceProblem (b : VoiceOps) : Option OperandProblem :=
  (rateProblem b.dt b.sr).or (if b.lengthParam < 7 then none else some .lengthParamTooLarge)

/-- R88: what makes the common operands of an effect command illegal. -/
def fxProblem (b : FxOps) : Option OperandProblem :=
  rateProblem b.dt b.sr

/-- R88: what makes the operands of `TICK.GLITCH` or `TICK.CROP` illegal. -/
def fxDrawProblem (b : FxOps) (d : FxDraws) : Option OperandProblem :=
  (fxProblem b).or (drawsProblem [d.uStart, d.uLen])

/-- R88: what makes the operands of `TICK.KLOK` illegal. -/
def klokProblem (b : KlokOps) : Option OperandProblem :=
  (rateProblem b.dt b.sr).or
    (if b.run = true ∧ b.bpm ≤ 0 then some .bpmNotPositive else none)

/-- R88: what makes the operands of `TICK.SECU` illegal. -/
def secuProblem (b : SecuOps) : Option OperandProblem :=
  ((rateProblem b.dt b.sr).or
    (if 1 ≤ b.nsteps ∧ b.nsteps ≤ 8 then none else some .stepCountOutOfRange)).or
    (drawsProblem (b.uProb :: b.uStep :: b.uCell.toList))

/-- The scenes `0 .. nscenes − 1`, in order. -/
def activeScenes (nscenes : Nat) : List (Fin 6) :=
  ([0, 1, 2, 3, 4, 5] : List (Fin 6)).take nscenes

/-- R88, R225: `len[0] + ... + len[nscenes−1]`. -/
def sceneTotal (b : ScenerOps) : Nat :=
  ((activeScenes b.nscenes).map fun s => b.len[s]).sum

/-- R88: what makes the operands of `TICK.SCENER` illegal. -/
def scenerProblem (b : ScenerOps) : Option OperandProblem :=
  ((rateProblem b.dt b.sr).or
    (if 1 ≤ b.nscenes ∧ b.nscenes ≤ 6 then none else some .sceneCountOutOfRange)).or
    (if 1 ≤ sceneTotal b then none else some .noSceneLength)

/-- R88: what makes the operands of `TICK.MIXBUS` illegal: only the `dt` and `sr` of R13 (log 19). -/
def mixProblem (b : MixOps) : Option OperandProblem :=
  rateProblem b.dt b.sr

/-- R62: the index of a scene input, `scene*5 + column`. -/
def sceneInputIndex (scene : Fin 6) (column : Fin 5) : Fin 30 :=
  ⟨scene.val * 5 + column.val, by omega⟩

/-- R62: the input voltage of a column in a scene. -/
def sceneInput (b : ScenerOps) (scene : Fin 6) (column : Fin 5) : Q :=
  b.inp[sceneInputIndex scene column]

/-- The five voices, effects or columns, in order. -/
def allFive : List (Fin 5) := [0, 1, 2, 3, 4]

/-- `1/48000` second, written as the rational itself. -/
def restDt : Q := { num := 1, den := 48000, den_nz := by decide, reduced := by decide }

/-- R92, R93: the operand ports of a command written with no operand at all after the directive
`.rate 48000`: `sr = 48000`, `dt = 1/48000`, everything else 0, but for the three operands whose 0
R88 forbids, which take their least legal value (`nsteps = 1`, `nscenes = 1`, `len[0] = 1`); log 5. -/
def restPorts : OperandPorts where
  voice := { dt := restDt, sr := 48000 }
  fx := { dt := restDt, sr := 48000 }
  klok := { dt := restDt, sr := 48000 }
  secu := { dt := restDt, sr := 48000, nsteps := 1 }
  scener := { dt := restDt, sr := 48000, nscenes := 1, len := #v[1, 0, 0, 0, 0, 0] }
  mixbus := { dt := restDt, sr := 48000 }

end Sys2Proof.Machine
end

