-- ==== Sys2Proof/WellFormed.lean ====
section
/-!
DEFINITION. When a command is well formed: its operands meet every precondition of spec/30_encoding
R88. `Instr.problem` names the first precondition it breaks. `TICK.MIXBUS` carries the `dt` and `sr`
of R13 (log 19).
-/

namespace Sys2Proof

/-- R88: the first precondition the command's operands break, if any. -/
def Instr.problem : Instr → Option OperandProblem
  | .nop => none
  | .reset => none
  | .gwr b => Machine.gwrProblem b
  | .tickVoice0 b => Machine.voiceProblem b
  | .tickVoice1 b => Machine.voiceProblem b
  | .tickVoice2 b => Machine.voiceProblem b
  | .tickVoice3 b => Machine.voiceProblem b
  | .tickVoice4 b => Machine.voiceProblem b
  | .tickBitcrush b => Machine.fxProblem b
  | .tickDecimate b => Machine.fxProblem b
  | .tickDistort b => Machine.fxProblem b
  | .tickGlitch b d => Machine.fxDrawProblem b d
  | .tickCrop b d => Machine.fxDrawProblem b d
  | .tickKlok b => Machine.klokProblem b
  | .tickSecu b => Machine.secuProblem b
  | .tickScener b => Machine.scenerProblem b
  | .tickMixbus b => Machine.mixProblem b

/-- R88: the command's operands are legal. -/
def Instr.wellFormed (i : Instr) : Bool := i.problem.isNone

end Sys2Proof
end

