-- ==== Sys2Proof/Decode.lean ====
section
/-!
DEFINITION. Decoding and encoding (spec/30_encoding R81 to R83, R94): `cmd[7:4] = UNIT`,
`cmd[3:0] = FN`, the command map of R82, and the operands taken from the command's own ports.
Decoding is total; a word outside the map is rejected by name.
-/

namespace Sys2Proof

/-- Why a command word is not a command. -/
inductive DecodeError where
  /-- R83: a word outside the command map. -/
  | reservedWord (w : CmdWord)
  deriving DecidableEq, Repr

/-- R81: `cmd[7:4]`, which unit. -/
def unitField (w : CmdWord) : BitVec 4 := w.extractLsb' 4 4

/-- R81: `cmd[3:0]`, which function or which instance of the unit. -/
def fnField (w : CmdWord) : BitVec 4 := w.extractLsb' 0 4

/-- R82, R83: the command a word and the operand ports beside it stand for. -/
def decode (w : CmdWord) (p : OperandPorts) : Except DecodeError Instr :=
  match (unitField w).toNat, (fnField w).toNat with
  | 0, 0 => .ok .nop
  | 0, 1 => .ok .reset
  | 0, 2 => .ok (.gwr p.gwr)
  | 1, 0 => .ok (.tickVoice0 p.voice)
  | 1, 1 => .ok (.tickVoice1 p.voice)
  | 1, 2 => .ok (.tickVoice2 p.voice)
  | 1, 3 => .ok (.tickVoice3 p.voice)
  | 1, 4 => .ok (.tickVoice4 p.voice)
  | 2, 0 => .ok (.tickBitcrush p.fx)
  | 2, 1 => .ok (.tickDecimate p.fx)
  | 2, 2 => .ok (.tickDistort p.fx)
  | 2, 3 => .ok (.tickGlitch p.fx p.draws)
  | 2, 4 => .ok (.tickCrop p.fx p.draws)
  | 3, 0 => .ok (.tickKlok p.klok)
  | 4, 0 => .ok (.tickSecu p.secu)
  | 5, 0 => .ok (.tickScener p.scener)
  | 6, 0 => .ok (.tickMixbus p.mixbus)
  | _, _ => .error (.reservedWord w)

/-- R82: the `UNIT` and `FN` fields of a command. -/
def Instr.fields : Instr → BitVec 4 × BitVec 4
  | .nop => (0, 0)
  | .reset => (0, 1)
  | .gwr _ => (0, 2)
  | .tickVoice0 _ => (1, 0)
  | .tickVoice1 _ => (1, 1)
  | .tickVoice2 _ => (1, 2)
  | .tickVoice3 _ => (1, 3)
  | .tickVoice4 _ => (1, 4)
  | .tickBitcrush _ => (2, 0)
  | .tickDecimate _ => (2, 1)
  | .tickDistort _ => (2, 2)
  | .tickGlitch _ _ => (2, 3)
  | .tickCrop _ _ => (2, 4)
  | .tickKlok _ => (3, 0)
  | .tickSecu _ => (4, 0)
  | .tickScener _ => (5, 0)
  | .tickMixbus _ => (6, 0)

/-- The operand ports `p` with the command's operands driven onto the ports of its own bundle. -/
def Instr.drive (i : Instr) (p : OperandPorts) : OperandPorts :=
  match i with
  | .nop => p
  | .reset => p
  | .gwr b => { p with gwr := b }
  | .tickVoice0 b => { p with voice := b }
  | .tickVoice1 b => { p with voice := b }
  | .tickVoice2 b => { p with voice := b }
  | .tickVoice3 b => { p with voice := b }
  | .tickVoice4 b => { p with voice := b }
  | .tickBitcrush b => { p with fx := b }
  | .tickDecimate b => { p with fx := b }
  | .tickDistort b => { p with fx := b }
  | .tickGlitch b d => { p with fx := b, draws := d }
  | .tickCrop b d => { p with fx := b, draws := d }
  | .tickKlok b => { p with klok := b }
  | .tickSecu b => { p with secu := b }
  | .tickScener b => { p with scener := b }
  | .tickMixbus b => { p with mixbus := b }

/-- R81: the word `cmd = {UNIT, FN}` of a command. -/
def Instr.word (i : Instr) : CmdWord := i.fields.1 ++ i.fields.2

/-- The word of a command and operand ports that carry its operands, every other port at rest. -/
def encode (i : Instr) : CmdWord × OperandPorts := (i.word, i.drive { })

/-- The command word of an opcode-table row: the low `nbits` bits of `w`, the bits above them 0. -/
def tableWord (nbits w : Nat) : CmdWord := BitVec.ofNat 8 (w % 2 ^ nbits)

/-- The clock edge that presents an opcode-table row's word: no reset, `cmd_valid`, the operand ports
at `restPorts` (the table gives operands no bits, R81; log 5). -/
def tableEdge (nbits w : Nat) : ClockEdge :=
  { rst := false, cmdValid := true, cmd := tableWord nbits w, ports := Machine.restPorts }

/-- The command the decoder reads from an opcode-table row's word, the operand ports at `restPorts`. -/
def decodeTableWord (nbits w : Nat) : Option Instr :=
  match decode (tableEdge nbits w).cmd (tableEdge nbits w).ports with
  | .ok i => some i
  | .error _ => none

end Sys2Proof
end

