-- ==== Sys2Proof/Machine/State.lean ====
section
/-!
DEFINITION. The state of the block (spec/10_state R20 to R40): the three primitive cells, the state
and output registers of every unit, the glitch sample memory as a list in canonical form, and the
clock edges the host is going to present. Plain data. Reset values: spec/10_state, spec/48_system_ops
R261, spec/70_reset_and_hazards R291.
-/

namespace Sys2Proof.Machine

/-- R23, R90: the state bit of an edge detector, `high` = 1, `low` = 0. -/
inductive EdState where
  | low
  | high
  deriving DecidableEq, Repr

/-- R23: an edge-detector cell `ED`. -/
structure Ed where
  state : EdState
  deriving DecidableEq, Repr

/-- R24: a pulse-generator cell `PG`; `rem` is the remaining pulse duration in seconds. -/
structure Pg where
  rem : Q
  deriving DecidableEq, Repr

/-- R25: a ramp cell `RP`. -/
structure Rp where
  val : Q
  deriving DecidableEq, Repr

/-- R26, R27: one percussion voice, its state and its six output registers. -/
structure Voice where
  osc : Rp
  amp : Rp
  ampRate : Q
  prevTrig : Q
  lock : Q
  ed : Ed
  pg : Pg
  oOsc : Q
  oAmp : Q
  oEnv : Q
  oEnvB : Q
  oGate : Q
  oLight : Q
  deriving DecidableEq, Repr

/-- R29, R60: the glitch sample memory as (element address, sample) pairs, addresses strictly rising,
no listed sample equal to 0, which is what an address that is not listed reads as (log 9). -/
abbrev Memory := List (Nat × Q)

/-- R29: the glitch buffer and its cursors. -/
structure Glitch where
  buf : Memory
  wr : Nat
  rd : Nat
  thr : Q
  filling : Bool
  deriving DecidableEq, Repr

/-- R30: the crop state. -/
structure Crop where
  cnt : Nat
  thr : Q
  deriving DecidableEq, Repr

/-- R31: the decimator state. -/
structure Decim where
  cnt : Nat
  held : Q
  deriving DecidableEq, Repr

/-- R32, R33: the clock divider. -/
structure Klok where
  cnt : Q
  period : Q
  step : Fin 8
  rstArmed : Bool
  pgClk : Pg
  pgRst : Pg
  oClk : Q
  oRst : Q
  oDiv : Vector Q 8
  oLight : Q
  deriving DecidableEq, Repr

/-- R34, R35: the step sequencer; `grid` is the gate grid by linear address `5 × s + c` (R61). -/
structure Secu where
  grid : Vector Q 40
  step : Fin 8
  outStep : Fin 8
  randLock : Q
  prevRand : Q
  edTrig : Ed
  edRst : Ed
  edRand : Ed
  oCol : Vector Q 5
  oLight : Vector Q 8
  deriving DecidableEq, Repr

/-- R36, R37: the scene crossfader. -/
structure Scener where
  cur : Fin 6
  prev : Fin 6
  steps : Nat
  sceneSteps : Nat
  ramp : Rp
  finished : Bool
  starting : Bool
  edTrig : Ed
  edRst : Ed
  pgAlert : Vector Pg 2
  oCol : Vector Q 5
  oAlert : Vector Q 2
  oAlight : Vector Q 2
  deriving DecidableEq, Repr

/-- The whole machine. `inputs` is the model's own field (log 4): the clock edges the host presents
from here on, the next one first. Every other field is the block's (R40). -/
structure State where
  inputs : List ClockEdge
  voice : Vector Voice 5
  fxOut : Vector Q 5
  glitch : Glitch
  crop : Crop
  decim : Decim
  klok : Klok
  secu : Secu
  scener : Scener
  mixOut : Q
  deriving DecidableEq, Repr

/-- Why the machine stops. The block has no fault of its own (R270). -/
inductive Fault where
  /-- Raised by `memRead` and `memWrite` for an element address at or above `CAP`, which the spec says
  does not exist (R60). No reachable state comes to it (R65, R165). Safe. -/
  | noSuchElement (addr : Nat)
  deriving DecidableEq, Repr

/-- Why a command is given no meaning. -/
inductive Refusal where
  /-- Raised by an arm of `exec` whose instruction has no meaning yet. Safe. -/
  | notModelled (mnemonic : String)
  /-- Raised by `step` for a command word outside the command map: "A model should refuse a reserved
  word rather than give it the `NOP` meaning" (R83). Safe. -/
  | reservedWord (w : CmdWord)
  /-- Raised by a meaning whose operands break a precondition of R88: "a command whose operands break
  one of them has no meaning in this spec and a model refuses it". Safe. -/
  | illegalOperand (why : OperandProblem)
  deriving DecidableEq, Repr

/-- R23: an edge detector after reset. -/
def Ed.reset : Ed := { state := .high }
/-- R24: a pulse generator after reset. -/
def Pg.reset : Pg := { rem := 0 }
/-- R25: a ramp after reset. -/
def Rp.reset : Rp := { val := 0 }

/-- R26, R27: a voice after reset. -/
def Voice.reset : Voice where
  osc := Rp.reset
  amp := Rp.reset
  ampRate := 0
  prevTrig := 0
  lock := 0
  ed := Ed.reset
  pg := Pg.reset
  oOsc := 0
  oAmp := 0
  oEnv := 0
  oEnvB := 0
  oGate := 0
  oLight := 0

/-- R29: the glitch buffer after reset: every element 0, the fill phase entered. -/
def Glitch.reset : Glitch := { buf := [], wr := 0, rd := 0, thr := 0, filling := true }
/-- R30: the crop state after reset. -/
def Crop.reset : Crop := { cnt := 0, thr := 0 }
/-- R31: the decimator state after reset. -/
def Decim.reset : Decim := { cnt := 0, held := 0 }

/-- R32, R33: the clock divider after reset. -/
def Klok.reset : Klok where
  cnt := 0
  period := 0
  step := 0
  rstArmed := true
  pgClk := Pg.reset
  pgRst := Pg.reset
  oClk := 0
  oRst := 0
  oDiv := Vector.replicate 8 0
  oLight := 0

/-- R34, R35: the step sequencer after reset. -/
def Secu.reset : Secu where
  grid := Vector.replicate 40 0
  step := 0
  outStep := 0
  randLock := 0
  prevRand := 0
  edTrig := Ed.reset
  edRst := Ed.reset
  edRand := Ed.reset
  oCol := Vector.replicate 5 0
  oLight := Vector.replicate 8 0

/-- R36, R37: the scene crossfader after reset. -/
def Scener.reset : Scener where
  cur := 0
  prev := 0
  steps := 0
  sceneSteps := 0
  ramp := Rp.reset
  finished := false
  starting := true
  edTrig := Ed.reset
  edRst := Ed.reset
  pgAlert := Vector.replicate 2 Pg.reset
  oCol := Vector.replicate 5 0
  oAlert := Vector.replicate 2 0
  oAlight := Vector.replicate 2 0

/-- R290, R291: the machine right after reset; the host has presented nothing yet (log 4). -/
def State.reset : State where
  inputs := []
  voice := Vector.replicate 5 Voice.reset
  fxOut := Vector.replicate 5 0
  glitch := Glitch.reset
  crop := Crop.reset
  decim := Decim.reset
  klok := Klok.reset
  secu := Secu.reset
  scener := Scener.reset
  mixOut := 0

/-- R91: the output registers the host can read, 69 in all. -/
inductive OutReg where
  | voiceOsc (v : Fin 5)
  | voiceAmp (v : Fin 5)
  | voiceEnv (v : Fin 5)
  | voiceEnvB (v : Fin 5)
  | voiceGate (v : Fin 5)
  | voiceLight (v : Fin 5)
  | fx (e : Fin 5)
  | klokClk
  | klokRst
  | klokDiv (i : Fin 8)
  | klokLight
  | secuCol (c : Fin 5)
  | secuLight (s : Fin 8)
  | scenerCol (c : Fin 5)
  | scenerAlert (j : Fin 2)
  | scenerAlight (j : Fin 2)
  | mix
  deriving DecidableEq, Repr

end Sys2Proof.Machine
end

