-- ==== Sys2Proof/Machine/Flags.lean ====
section
/-!
DEFINITION. The conditions the block computes. It has no condition codes (spec/10_state R39); its
flags are state bits of single units, and what decides in a tick are the events of spec/60_exceptions
R273: an edge, a held button, a draw below a probability, an expired lockout, a cell that is on.
-/

namespace Sys2Proof.Machine

/-- R100 `clamp(x, lo, hi)`. -/
def clamp (x lo hi : Q) : Q := max lo (min x hi)

/-- R102 `ED.PROC`: the cell after the input `v`, and whether it reports a rising edge. -/
def Ed.proc (cell : Ed) (v : Q) : Ed × Bool :=
  match cell.state with
  | .high => if v ≤ ED_LO then ({ state := .low }, false) else (cell, false)
  | .low => if v ≥ ED_HI then ({ state := .high }, true) else (cell, false)

/-- R7 `BTN_TH`: a button parameter is pressed. -/
def pressed (x : Q) : Bool := decide (x ≥ BTN_TH)

/-- R7 `GRID_TH`: a grid cell is on. -/
def cellOn (level : Q) : Bool := decide (level ≥ GRID_TH)

/-- R112: an event of probability `p` happens exactly when its draw `u` is below `p`. -/
def happens (u p : Q) : Bool := decide (u < p)

/-- R108 `LOCKOUT`: whether the action happens, and the countdown after the tick. -/
def lockout (fire : Bool) (prev lock sr : Q) : Bool × Q :=
  if fire then
    if prev = 0 ∨ lock ≤ 0 then (true, sr / LOCK_DIV)
    else (false, clamp (lock - 1) 0 sr)
  else (false, lock)

/-- R89: a control word of two bits, `hi` bit 1 and `lo` bit 0. -/
def ctlWord (hi lo : Bool) : BitVec 2 := BitVec.ofBool hi ++ BitVec.ofBool lo

end Sys2Proof.Machine
end

