-- ==== Sys2Proof/Machine/Ops.lean ====
section
/-!
DEFINITION. The named operations the meanings are made of: the shared functions and the cell
operations of spec/40_primitive_cells (R100 to R109), the cell control words (spec/30_encoding R89),
the glitch sample memory (spec/20_memory R60, R66), one update per unit of the state (spec/00_scope
R3), reset (spec/70_reset R290), the legality guard (R88), the output registers as the host reads
them (R91) and taking the host's next clock edge (R80).

The block takes no exception and returns from none (spec/60_exceptions R270, R276, R277), so there is
no operation for either.
-/

namespace Sys2Proof.Machine

/-- The outcome of a command. -/
abbrev StepOutcome := Host.Outcome State Fault Refusal

/-! ### Shared functions -/

/-- R101 `xfade(a, b, p)`. -/
def xfade (a b p : Q) : Q := a + (b - a) * p

/-- R12: the sign of `x`. -/
def signOf (x : Q) : Int := if x < 0 then -1 else if x = 0 then 0 else 1

/-- R12 `round_haz(x)`: the nearest integer, ties away from zero. -/
def roundHaz (x : Q) : Int := signOf x * ⌊|x| + 1 / 2⌋

/-- R107 `ENV(r, k)`. -/
def env (r : Q) (k : Nat) : Q :=
  clamp (if r < CLIP_RATIO then r / CLIP_RATIO else (1 - r + CLIP_RATIO) ^ k) 0 1

/-- R109 `QUANTITY(param, cv_conn, cv, att)`. -/
def quantity (param : Q) (cvConn : Bool) (cv att : Q) : Q :=
  if cvConn then clamp (param + cv * CV_SCALE * att) 0 1 else clamp param 0 1

/-! ### Cell operations -/

/-- R103 `PG.TRIG(cell, d)`. -/
def Pg.trig (cell : Pg) (d : Q) : Pg := if d > cell.rem then { rem := d } else cell

/-- R104 `PG.PROC(cell, dt)`: the cell after the tick, and the pulse level 1 or 0. -/
def Pg.proc (cell : Pg) (dt : Q) : Pg × Q :=
  if cell.rem > 0 then ({ rem := cell.rem - dt }, 1) else (cell, 0)

/-- R105 `RP.CLR(cell)`. -/
def Rp.clr (_cell : Rp) : Rp := { val := 0 }

/-- R106 `RP.ADV(cell, rate, dt)`. -/
def Rp.adv (cell : Rp) (rate dt : Q) : Rp := { val := clamp (cell.val + rate * dt) 0 1 }

/-! ### Cell control words (R89): the operation of bit 1 comes first -/

/-- R89 `ed_ctl[0] = proc`; a held cell reports no edge. -/
def Ed.drive (ctl : BitVec 1) (cell : Ed) (v : Q) : Ed × Bool :=
  if ctl.getLsbD 0 then cell.proc v else (cell, false)

/-- R89 `pg_ctl[1] = trig`, `pg_ctl[0] = proc`; the level is 0 where the cell is not processed. -/
def Pg.drive (ctl : BitVec 2) (cell : Pg) (d dt : Q) : Pg × Q :=
  let armed := if ctl.getLsbD 1 then cell.trig d else cell
  if ctl.getLsbD 0 then armed.proc dt else (armed, 0)

/-- R89 `rp_ctl[1] = clr`, `rp_ctl[0] = adv`. -/
def Rp.drive (ctl : BitVec 2) (cell : Rp) (rate dt : Q) : Rp :=
  let cleared := if ctl.getLsbD 1 then cell.clr else cell
  if ctl.getLsbD 0 then cleared.adv rate dt else cleared

/-! ### The glitch sample memory -/

/-- R29: what an element that nothing has written reads as, its reset value. -/
def unwritten : Q := 0

/-- The sample at an element address. -/
def Memory.read : Memory → Nat → Q
  | [], _ => unwritten
  | (b, x) :: m, a => if b = a then x else Memory.read m a

/-- One listed element in front of a memory, left out where it holds what it would read as anyway. -/
def Memory.cons (a : Nat) (v : Q) (m : Memory) : Memory :=
  if v = unwritten then m else (a, v) :: m

/-- The memory with the sample at one element address replaced, in canonical form. -/
def Memory.write : Memory → Nat → Q → Memory
  | [], a, v => Memory.cons a v []
  | (b, x) :: m, a, v =>
    if a < b then Memory.cons a v ((b, x) :: m)
    else if a = b then Memory.cons a v m
    else (b, x) :: Memory.write m a v

/-- The canonical form: addresses strictly rising, no listed sample that equals `unwritten`, and every
address an element of the buffer (R60). -/
def Memory.wf : Memory → Bool
  | [] => true
  | [(a, v)] => decide (v ≠ unwritten) && decide (a < CAP)
  | (a, v) :: (b, w) :: m =>
    decide (v ≠ unwritten) && decide (a < b) && Memory.wf ((b, w) :: m)

/-- R11 `MemRead(addr, 1)`; an address at or above `CAP` is no element (R60, log 10). -/
def memRead (m : Memory) (addr : Nat) : Except Fault Q :=
  if addr < CAP then .ok (m.read addr) else .error (.noSuchElement addr)

/-- R11 `MemWrite(addr, 1, v)`; an address at or above `CAP` is no element (R60, log 10). -/
def memWrite (m : Memory) (addr : Nat) (v : Q) : Except Fault Memory :=
  if addr < CAP then .ok (m.write addr v) else .error (.noSuchElement addr)

/-! ### One unit's state replaced, every other unit's kept (R3) -/

/-- The host's edges from the next one on. -/
def State.setInputs (s : State) (es : List ClockEdge) : State := { s with inputs := es }
/-- `V[v]` replaced. -/
def State.setVoice (s : State) (v : Fin 5) (x : Voice) : State :=
  { s with voice := s.voice.set v x }
/-- `FX[e].out` written. -/
def State.setFxOut (s : State) (e : Fin 5) (x : Q) : State :=
  { s with fxOut := s.fxOut.set e x }
/-- The state of `GLITCH` replaced. -/
def State.setGlitch (s : State) (g : Glitch) : State := { s with glitch := g }
/-- The state of `CROP` replaced. -/
def State.setCrop (s : State) (c : Crop) : State := { s with crop := c }
/-- The state of `DECIMATE` replaced. -/
def State.setDecim (s : State) (d : Decim) : State := { s with decim := d }
/-- The state of `KLOK` replaced. -/
def State.setKlok (s : State) (k : Klok) : State := { s with klok := k }
/-- The state of `SECU` replaced. -/
def State.setSecu (s : State) (q : Secu) : State := { s with secu := q }
/-- The state of `SCENER` replaced. -/
def State.setScener (s : State) (c : Scener) : State := { s with scener := c }
/-- `M.out` written. -/
def State.setMix (s : State) (x : Q) : State := { s with mixOut := x }

/-- R61: the linear address of a grid cell. -/
def gridAddr (s : Fin 8) (c : Fin 5) : Fin 40 := ⟨5 * s.val + c.val, by omega⟩

/-- R61: the level of a grid cell. -/
def Secu.cell (q : Secu) (s : Fin 8) (c : Fin 5) : Q := q.grid[gridAddr s c]

/-- R261, R290: every state field and output register takes its reset value; the edges the host is
still to present are not the block's and stay (log 4). -/
def resetBlock (s : State) : State := State.reset.setInputs s.inputs

/-! ### Running a command -/

/-- R88: a command whose operands are illegal is refused, before any of its effect. -/
def withLegal (problem : Option OperandProblem) (run : StepOutcome) : StepOutcome :=
  match problem with
  | some p => .refused (.illegalOperand p)
  | none => run

/-- R80: the host's next clock edge and the state after it is taken; a host that presents nothing
more holds `cmd_valid` at 0 (log 4). -/
def nextEdge (s : State) : ClockEdge × State :=
  match s.inputs with
  | [] => ({ }, s)
  | e :: es => (e, s.setInputs es)

/-- The state in which the host presents `e` next. -/
def presentNext (s : State) (e : ClockEdge) : State := s.setInputs (e :: s.inputs)

/-- R91: an output register as the host reads it; a read changes nothing. -/
def readOut (s : State) : OutReg → Q
  | .voiceOsc v => s.voice[v].oOsc
  | .voiceAmp v => s.voice[v].oAmp
  | .voiceEnv v => s.voice[v].oEnv
  | .voiceEnvB v => s.voice[v].oEnvB
  | .voiceGate v => s.voice[v].oGate
  | .voiceLight v => s.voice[v].oLight
  | .fx e => s.fxOut[e]
  | .klokClk => s.klok.oClk
  | .klokRst => s.klok.oRst
  | .klokDiv i => s.klok.oDiv[i]
  | .klokLight => s.klok.oLight
  | .secuCol c => s.secu.oCol[c]
  | .secuLight i => s.secu.oLight[i]
  | .scenerCol c => s.scener.oCol[c]
  | .scenerAlert j => s.scener.oAlert[j]
  | .scenerAlight j => s.scener.oAlight[j]
  | .mix => s.mixOut

end Sys2Proof.Machine
end

