-- ==== Sys2Proof/Machine/Effects.lean ====
section
/-!
DEFINITION. The five effect commands: their wrapper (spec/42_effects_stateless R140 to R143), the
bitcrusher and the distorter (R144, R146), the glitch and the crop (spec/43_effects_buffered R160 to
R164, R170 to R173) and the decimator (spec/47_adjacent_units R250).
-/

namespace Sys2Proof.Machine

/-! ### The wrapper -/

/-- R142: the intensity of this tick. -/
def intensity (b : FxOps) : Q := quantity b.param b.cvConn b.cv b.att

/-- R140, R141, R143: skip unless input and output are connected; else run the effect at the
intensity of this tick and blend its result into `FX[e].out`. The effect answers the state with its
own unit updated, and `fx`. -/
def fxWrapper (e : Fin 5) (b : FxOps) (effect : Q → Except Fault (State × Q)) (s : State) :
    StepOutcome :=
  if b.inConn && b.outConn then
    match effect (intensity b) with
    | .error f => .fault f
    | .ok (t, fx) => .next (t.setFxOut e (xfade b.inp fx b.wet))
  else .next s

/-! ### Bitcrusher and distorter -/

/-- R144: the quantization step. -/
def crushStep (q : Q) : Q := Config.exp2 (BC_BITS - (BC_OFF + q) * BC_BITS)

/-- R144: `EFFECT_0`. -/
def crush (inp q : Q) : Q := (roundHaz (inp / crushStep q) : Q) * crushStep q

/-- R144 `TICK.BITCRUSH`. -/
def execTickBitcrush (b : FxOps) (s : State) : StepOutcome :=
  withLegal (fxProblem b) (fxWrapper 0 b (fun q => .ok (s, crush b.inp q)) s)

/-- R146: `EFFECT_2`. -/
def distort (inp q : Q) : Q := Config.tanh (inp * (q * DRIVE_MAX))

/-- R146 `TICK.DISTORT`. -/
def execTickDistort (b : FxOps) (s : State) : StepOutcome :=
  withLegal (fxProblem b) (fxWrapper 2 b (fun q => .ok (s, distort b.inp q)) s)

/-! ### Decimator -/

/-- R250: `N`, the hold length. -/
def holdLength (q : Q) : Nat := ⌊q * DEC_MAX⌋₊

/-- R250: `EFFECT_1`; `fx` is the held sample after it. -/
def decimate (inp q : Q) (d : Decim) : Decim :=
  if d.cnt + 1 ≥ holdLength q then { cnt := 0, held := inp } else { d with cnt := d.cnt + 1 }

/-- R250 `TICK.DECIMATE`. -/
def execTickDecimate (b : FxOps) (s : State) : StepOutcome :=
  withLegal (fxProblem b)
    (fxWrapper 1 b
      (fun q => .ok (s.setDecim (decimate b.inp q s.decim), (decimate b.inp q s.decim).held)) s)

/-! ### Glitch -/

/-- R161 `FILL`. -/
def glitchFill (inp : Q) (g : Glitch) : Except Fault (Glitch × Q) :=
  match memWrite g.buf g.wr inp with
  | .error f => .error f
  | .ok buf =>
    .ok ({ g with
            buf := buf
            wr := g.wr + 1
            filling := if g.wr + 1 = CAP then false else g.filling }, inp)

/-- R162 `REPLAY`: the read of the old content comes first. -/
def glitchReplay (inp : Q) (g : Glitch) : Except Fault (Glitch × Q) :=
  match memRead g.buf g.rd with
  | .error f => .error f
  | .ok y =>
    match memWrite g.buf g.rd inp with
    | .error f => .error f
    | .ok buf => .ok ({ g with buf := buf, rd := g.rd + 1 }, y)

/-- R163: the read threshold of a window that starts. -/
def glitchThreshold (q uLen : Q) : Q := uLen * ((CAP : Q) - q * GL_SHRINK * (CAP : Q))

/-- R163 `IDLE`. -/
def glitchIdle (inp q : Q) (d : FxDraws) (g : Glitch) : Glitch × Q :=
  (if happens d.uStart q then { g with thr := glitchThreshold q d.uLen, rd := 0 } else g, inp)

/-- R160: `EFFECT_3`, fill, else replay, else idle. -/
def glitchEffect (inp q : Q) (d : FxDraws) (g : Glitch) : Except Fault (Glitch × Q) :=
  if g.filling then glitchFill inp g
  else if (g.rd : Q) < g.thr then glitchReplay inp g
  else .ok (glitchIdle inp q d g)

/-- R160 `TICK.GLITCH`. -/
def execTickGlitch (b : FxOps) (d : FxDraws) (s : State) : StepOutcome :=
  withLegal (fxDrawProblem b d)
    (fxWrapper 3 b
      (fun q =>
        match glitchEffect b.inp q d s.glitch with
        | .error f => .error f
        | .ok (g, fx) => .ok (s.setGlitch g, fx)) s)

/-! ### Crop -/

/-- R171, R172: `EFFECT_4`, an active window, else idle. -/
def cropEffect (inp q sr : Q) (d : FxDraws) (c : Crop) : Crop × Q :=
  if (c.cnt : Q) < c.thr then ({ c with cnt := c.cnt + 1 }, inp * CROP_GAIN)
  else (if happens d.uStart (q * CROP_P) then { cnt := 0, thr := d.uLen * CROP_S * sr } else c, inp)

/-- R170 `TICK.CROP`. -/
def execTickCrop (b : FxOps) (d : FxDraws) (s : State) : StepOutcome :=
  withLegal (fxDrawProblem b d)
    (fxWrapper 4 b
      (fun q =>
        .ok (s.setCrop (cropEffect b.inp q b.sr d s.crop).1, (cropEffect b.inp q b.sr d s.crop).2)) s)

end Sys2Proof.Machine
end

