-- ==== Sys2Proof/Machine/Klok.lean ====
section
/-!
DEFINITION. `TICK.KLOK`, the clock divider (spec/44_clock_divider R180 to R186).
-/

namespace Sys2Proof.Machine

/-- R181: a STOPPED tick zeroes the counters and arms the reset flag. -/
def klokStop (k : Klok) : Klok := { k with cnt := 0, period := 0, step := 0, rstArmed := true }

/-- R182: the first RUNNING tick of a run fires the reset pulse. -/
def klokStart (k : Klok) : Klok :=
  if k.rstArmed then { k with pgRst := k.pgRst.trig PULSE_S, rstArmed := false } else k

/-- R183: the samples per master tick. -/
def klokPeriod (b : KlokOps) : Q := 60 * b.sr / (b.bpm * 2)

/-- R183, R184: the period, the counter, the master pulse and the step index (mod 8). -/
def klokCount (b : KlokOps) (k : Klok) : Klok :=
  if k.cnt + 1 > klokPeriod b then
    { k with
      period := klokPeriod b
      cnt := k.cnt + 1 - klokPeriod b
      pgClk := k.pgClk.trig PULSE_S
      step := k.step + 1 }
  else { k with period := klokPeriod b, cnt := k.cnt + 1 }

/-- R186: modulo output `i` at master pulse level `m`. -/
def divOutput (step : Fin 8) (m : Q) (i : Fin 8) : Q :=
  if step.val % (i.val + 1) = 0 then V_GATE * m else 0

/-- R185, R186: both pulse generators are processed and the outputs written. -/
def klokOutputs (dt : Q) (k : Klok) : Klok :=
  { k with
    pgClk := (k.pgClk.proc dt).1
    pgRst := (k.pgRst.proc dt).1
    oClk := V_GATE * (k.pgClk.proc dt).2
    oRst := V_GATE * (k.pgRst.proc dt).2
    oDiv := Vector.ofFn fun i => divOutput k.step (k.pgClk.proc dt).2 i
    oLight := (k.pgClk.proc dt).2 }

/-- R180: one tick of the clock divider. -/
def klokTick (b : KlokOps) (k : Klok) : Klok :=
  klokOutputs b.dt (if b.run then klokCount b (klokStart k) else klokStop k)

/-- R180 `TICK.KLOK`. -/
def execTickKlok (b : KlokOps) (s : State) : StepOutcome :=
  withLegal (klokProblem b) (.next (s.setKlok (klokTick b s.klok)))

end Sys2Proof.Machine
end

