-- ==== Sys2Proof/Machine/Mixbus.lean ====
section
/-!
DEFINITION. `TICK.MIXBUS`, the mix bus (spec/47_adjacent_units R252).
-/

namespace Sys2Proof.Machine

/-- R252: the connected voices. -/
def connectedVoices (b : MixOps) : List (Fin 5) := allFive.filter fun v => b.conn[v]

/-- R252: the mean of the connected voices' outputs, 0 when none is connected. -/
def mix (b : MixOps) : Q :=
  if (connectedVoices b).length = 0 then 0
  else ((connectedVoices b).map fun v => b.vout[v]).sum / ((connectedVoices b).length : Q)

/-- R252 `TICK.MIXBUS`; R88 for the `dt` and `sr` that R13 gives every tick (log 19). -/
def execTickMixbus (b : MixOps) (s : State) : StepOutcome :=
  withLegal (mixProblem b) (.next (s.setMix (mix b)))

end Sys2Proof.Machine
end

