-- ==== Sys2Proof/Machine/Scener.lean ====
section
/-!
DEFINITION. `TICK.SCENER`, the scene crossfader (spec/46_scene_crossfader R220 to R231).
-/

namespace Sys2Proof.Machine

/-- R228: the marker of alert `j` in a scene, as a step of the scene. -/
def alertMarker (b : ScenerOps) (scene : Fin 6) (j : Fin 2) : Int :=
  ⌊b.alert[scene][j] * (b.len[scene] : Q)⌋

/-- R228 `ALERTS()`. -/
def scenerAlerts (b : ScenerOps) (c : Scener) : Scener :=
  { c with
    pgAlert := Vector.ofFn fun j =>
      if (c.sceneSteps : Int) = alertMarker b c.cur j then c.pgAlert[j].trig ALERT_S
      else c.pgAlert[j] }

/-- R221: the first tick evaluates the alerts of scene 0. -/
def scenerStart (b : ScenerOps) (c : Scener) : Scener :=
  if c.starting then { scenerAlerts b c with starting := false } else c

/-- R222: reset by the held button or by an edge on the reset input. -/
def scenerReset (b : ScenerOps) (c : Scener) : Scener :=
  if pressed b.rstBtn || (c.edRst.proc b.rstIn).2 then
    { c with edRst := (c.edRst.proc b.rstIn).1, steps := 0, cur := 0, finished := false }
  else { c with edRst := (c.edRst.proc b.rstIn).1 }

/-- R223: the counters, and the scene before this edge. -/
def scenerCount (c : Scener) : Scener :=
  { c with steps := c.steps + 1, sceneSteps := c.sceneSteps + 1, prev := c.cur }

/-- R224: the scan, started at scene `cur`; answers the scene it selects and the total of the lengths
it has gone through. -/
def sceneScan (b : ScenerOps) (steps : Nat) (cur : Fin 6) : Fin 6 × Nat :=
  (activeScenes b.nscenes).foldl
    (fun acc s => (if steps > acc.2 then s else acc.1, acc.2 + b.len[s])) (cur, 0)

/-- R224: the current scene after the scan. -/
def scenerScan (b : ScenerOps) (c : Scener) : Scener :=
  { c with cur := (sceneScan b c.steps c.cur).1 }

/-- R225, R226: the wrap when looping, the finish when not; `total` is the scan's. -/
def scenerWrap (b : ScenerOps) (total : Nat) (c : Scener) : Scener :=
  if b.loop then { c with steps := c.steps % total }
  else if c.steps ≥ total then { c with finished := true, ramp := c.ramp.clr }
  else c

/-- R227: a scene change. -/
def scenerChange (c : Scener) : Scener :=
  if c.cur ≠ c.prev then { c with sceneSteps := 0, ramp := c.ramp.clr } else c

/-- R223 to R228: everything a trigger edge does when the sequence is not finished. -/
def scenerAdvance (b : ScenerOps) (c : Scener) : Scener :=
  let counted := scenerCount c
  scenerAlerts b
    (scenerChange
      (scenerWrap b (sceneScan b counted.steps counted.cur).2 (scenerScan b counted)))

/-- R223: the trigger edge; the detector is processed on every tick. -/
def scenerTrigger (b : ScenerOps) (c : Scener) : Scener :=
  if (c.edTrig.proc b.trigIn).2 && !c.finished then
    scenerAdvance b { c with edTrig := (c.edTrig.proc b.trigIn).1 }
  else { c with edTrig := (c.edTrig.proc b.trigIn).1 }

/-- R229: the crossfade ramp; a transition time of 0 or less is an instant transition. -/
def scenerRamp (b : ScenerOps) (c : Scener) : Scener :=
  { c with ramp := if b.ttime ≤ 0 then { val := 1 } else c.ramp.adv (1 / b.ttime) b.dt }

/-- R230: the voltage of a column output. -/
def sceneColumn (b : ScenerOps) (c : Scener) (col : Fin 5) : Q :=
  if c.finished then sceneInput b c.prev col * (1 - c.ramp.val)
  else xfade (sceneInput b c.prev col) (sceneInput b c.cur col) c.ramp.val

/-- R230, R231: the column outputs, the alert pulses and their lights. -/
def scenerOutputs (b : ScenerOps) (c : Scener) : Scener :=
  { c with
    oCol := Vector.ofFn fun col => sceneColumn b c col
    pgAlert := Vector.ofFn fun j => (c.pgAlert[j].proc b.dt).1
    oAlert := Vector.ofFn fun j => V_GATE * (c.pgAlert[j].proc b.dt).2
    oAlight := Vector.ofFn fun j => (c.pgAlert[j].proc b.dt).2 }

/-- R220: one tick of the scene crossfader: startup, reset, trigger, ramp, outputs. -/
def scenerTick (b : ScenerOps) (c : Scener) : Scener :=
  scenerOutputs b (scenerRamp b (scenerTrigger b (scenerReset b (scenerStart b c))))

/-- R220 `TICK.SCENER`. -/
def execTickScener (b : ScenerOps) (s : State) : StepOutcome :=
  withLegal (scenerProblem b) (.next (s.setScener (scenerTick b s.scener)))

end Sys2Proof.Machine
end

