-- ==== Sys2Proof/Machine/Secu.lean ====
section
/-!
DEFINITION. `TICK.SECU`, the step sequencer (spec/45_step_sequencer R200 to R205).
-/

namespace Sys2Proof.Machine

/-- R201: an edge on the reset input zeroes the step index. -/
def secuReset (b : SecuOps) (q : Secu) : Secu :=
  { q with
    edRst := (q.edRst.proc b.rstIn).1
    step := if (q.edRst.proc b.rstIn).2 then 0 else q.step }

/-- R202: the grid a randomization leaves, each cell from its own draw. -/
def randomGrid (b : SecuOps) : Vector Q 40 :=
  b.uCell.map fun u => if happens u b.sparse then 1 else 0

/-- R202: randomization by the held button, through the lockout, or by an edge on its input. -/
def secuRandomize (b : SecuOps) (q : Secu) : Secu :=
  let goLock := lockout (pressed b.randBtn) q.prevRand q.randLock b.sr
  { q with
    randLock := goLock.2
    prevRand := b.randBtn
    edRand := (q.edRand.proc b.randIn).1
    grid := if goLock.1 || (q.edRand.proc b.randIn).2 then randomGrid b else q.grid }

/-- R203: the probability of a substitution. -/
def substitution (b : SecuOps) : Q := clamp (b.prob + b.probCv) 0 1

/-- R203: the output step a trigger edge selects when the sequential index is `step`. -/
def nextOutStep (b : SecuOps) (step : Fin 8) : Fin 8 :=
  if happens b.uProb (substitution b) then Fin.ofNat 8 ⌊b.uStep * (b.nsteps : Q)⌋₊ else step

/-- R203: a trigger edge selects the output step and advances the sequential index. -/
def secuTrigger (b : SecuOps) (q : Secu) : Secu :=
  if (q.edTrig.proc b.trigIn).2 then
    { q with
      edTrig := (q.edTrig.proc b.trigIn).1
      outStep := nextOutStep b q.step
      step := Fin.ofNat 8 ((q.step.val + 1) % b.nsteps) }
  else { q with edTrig := (q.edTrig.proc b.trigIn).1 }

/-- R204: the voltage of a column output. -/
def columnOut (b : SecuOps) (q : Secu) (c : Fin 5) : Q :=
  if b.outConn[c] && cellOn (q.cell q.outStep c) then b.trigIn else 0

/-- R204, R205: the column outputs and the step lights. -/
def secuOutputs (b : SecuOps) (q : Secu) : Secu :=
  { q with
    oCol := Vector.ofFn fun c => columnOut b q c
    oLight := Vector.ofFn fun i => if i = q.outStep then 1 else 0 }

/-- R200: one tick of the step sequencer: reset, randomization, trigger, outputs. -/
def secuTick (b : SecuOps) (q : Secu) : Secu :=
  secuOutputs b (secuTrigger b (secuRandomize b (secuReset b q)))

/-- R200 `TICK.SECU`. -/
def execTickSecu (b : SecuOps) (s : State) : StepOutcome :=
  withLegal (secuProblem b) (.next (s.setSecu (secuTick b s.secu)))

end Sys2Proof.Machine
end

