-- ==== Sys2Proof/Machine/System.lean ====
section
/-!
DEFINITION. The system commands `NOP`, `RESET` and `GWR` (spec/48_system_ops R260 to R262).
-/

namespace Sys2Proof.Machine

/-- R260 `NOP`: nothing is read or written. -/
def execNop (s : State) : StepOutcome := .next s

/-- R261 `RESET`: the whole block takes its reset values. -/
def execReset (s : State) : StepOutcome := .next (resetBlock s)

/-- R262: the grid with the cell at `(s, c)`, linear address `5 × s + c`, written. -/
def gridWrite (b : GwrOps) (q : Secu) : Secu :=
  { q with grid := q.grid.setIfInBounds (5 * b.s + b.c) b.level }

/-- R262 `GWR`: one grid cell is written and nothing else. -/
def execGwr (b : GwrOps) (s : State) : StepOutcome :=
  withLegal (gwrProblem b) (.next (s.setSecu (gridWrite b s.secu)))

end Sys2Proof.Machine
end

