-- ==== Sys2Proof/Machine/Voice.lean ====
section
/-!
DEFINITION. `TICK.VOICE v` (spec/41_voice_envelope R120 to R126), one tick of a percussion voice, and
the five commands that name the voice.
-/

namespace Sys2Proof.Machine

/-- R120, step 1: the fire condition, button or edge. -/
def voiceFire (b : VoiceOps) (x : Voice) : Bool := pressed b.trigParam || (x.ed.proc b.trigIn).2

/-- R121: `gr`, the gate ratio of this tick. -/
def gateRatio (b : VoiceOps) : Q := GATE_BASE - b.lengthParam

/-- R120 to R122: edge detection, gate ratio and trigger-state update. -/
def voiceTrigger (b : VoiceOps) (x : Voice) : Voice :=
  let goLock := lockout (voiceFire b x) x.prevTrig x.lock b.sr
  { x with
    ed := (x.ed.proc b.trigIn).1
    ampRate := gateRatio b
    lock := goLock.2
    osc := if goLock.1 then x.osc.clr else x.osc
    amp := if goLock.1 then x.amp.clr else x.amp
    pg := if goLock.1 then x.pg.trig (1 / gateRatio b) else x.pg
    prevTrig := b.trigParam }

/-- R123: the ramps advance on every connected tick. -/
def voiceAdvance (b : VoiceOps) (x : Voice) : Voice :=
  { x with
    amp := x.amp.adv (gateRatio b) b.dt
    osc := x.osc.adv OSC_HZ b.dt }

/-- R124: the second envelope, of voice 1 only. -/
def secondEnv (v : Fin 5) (r : Q) : Q := if v = 1 then env r KB1 else 0

/-- R124 to R126: envelopes, gate and the output write. -/
def voiceOutputs (v : Fin 5) (b : VoiceOps) (x : Voice) : Voice :=
  { x with
    pg := (x.pg.proc b.dt).1
    oOsc := x.osc.val
    oAmp := x.amp.val
    oEnv := env x.amp.val KA[v]
    oEnvB := secondEnv v x.amp.val
    oGate := (x.pg.proc b.dt).2
    oLight := env x.amp.val KA[v] }

/-- R120: one tick of a voice; while its trigger input is not connected only the light goes to 0. -/
def voiceTick (v : Fin 5) (b : VoiceOps) (x : Voice) : Voice :=
  if b.trigConn then voiceOutputs v b (voiceAdvance b (voiceTrigger b x))
  else { x with oLight := 0 }

/-- R120 `TICK.VOICE v`. -/
def tickVoice (v : Fin 5) (b : VoiceOps) (s : State) : StepOutcome :=
  withLegal (voiceProblem b) (.next (s.setVoice v (voiceTick v b s.voice[v])))

/-- R120 `TICK.VOICE 0`, the kick. -/
def execTickVoice0 (b : VoiceOps) (s : State) : StepOutcome := tickVoice 0 b s
/-- R120 `TICK.VOICE 1`, the snare. -/
def execTickVoice1 (b : VoiceOps) (s : State) : StepOutcome := tickVoice 1 b s
/-- R120 `TICK.VOICE 2`, the closed hihat. -/
def execTickVoice2 (b : VoiceOps) (s : State) : StepOutcome := tickVoice 2 b s
/-- R120 `TICK.VOICE 3`, the open hihat. -/
def execTickVoice3 (b : VoiceOps) (s : State) : StepOutcome := tickVoice 3 b s
/-- R120 `TICK.VOICE 4`, the fx voice. -/
def execTickVoice4 (b : VoiceOps) (s : State) : StepOutcome := tickVoice 4 b s

end Sys2Proof.Machine
end

