-- ==== Sys2Proof/Machine/Dispatch.lean ====
section
/-!
DEFINITION. What each command does: one arm per constructor of `Instr`, each one call of its meaning.
-/

namespace Sys2Proof.Machine

def exec (i : Instr) (s : State) : Host.Outcome State Fault Refusal :=
  match i with
  | .nop => Sys2Proof.Machine.execNop s
  | .reset => Sys2Proof.Machine.execReset s
  | .gwr b => Sys2Proof.Machine.execGwr b s
  | .tickVoice0 b => Sys2Proof.Machine.execTickVoice0 b s
  | .tickVoice1 b => Sys2Proof.Machine.execTickVoice1 b s
  | .tickVoice2 b => Sys2Proof.Machine.execTickVoice2 b s
  | .tickVoice3 b => Sys2Proof.Machine.execTickVoice3 b s
  | .tickVoice4 b => Sys2Proof.Machine.execTickVoice4 b s
  | .tickBitcrush b => Sys2Proof.Machine.execTickBitcrush b s
  | .tickDecimate b => Sys2Proof.Machine.execTickDecimate b s
  | .tickDistort b => Sys2Proof.Machine.execTickDistort b s
  | .tickGlitch b d => Sys2Proof.Machine.execTickGlitch b d s
  | .tickCrop b d => Sys2Proof.Machine.execTickCrop b d s
  | .tickKlok b => Sys2Proof.Machine.execTickKlok b s
  | .tickSecu b => Sys2Proof.Machine.execTickSecu b s
  | .tickScener b => Sys2Proof.Machine.execTickScener b s
  | .tickMixbus b => Sys2Proof.Machine.execTickMixbus b s

end Sys2Proof.Machine
end

