-- ==== Sys2Proof/Machine/Step.lean ====
section
/-!
DEFINITION. One step: one clock edge (spec/30_encoding R80, spec/70_reset R290, R310). The block
fetches nothing (spec/10_state R21): the edge the host presents carries the command.
-/

namespace Sys2Proof.Machine

/-- R80, R260, R290, R83: an edge with `rst` resets the block whatever else it carries; an edge
without `cmd_valid` does nothing; a valid command is decoded and executed, and a reserved word is
refused. -/
def step (s : State) : Host.Outcome State Fault Refusal :=
  match nextEdge s with
  | (e, t) =>
    if e.rst then .next (resetBlock t)
    else if e.cmdValid then
      match decode e.cmd e.ports with
      | .ok i => exec i t
      | .error (.reservedWord w) => .refused (.reservedWord w)
    else .next t

/-- The state in which the next clock edge carries an opcode-table row's word, its operand ports at
`restPorts` (log 5). -/
def State.withFetchWord (s : State) (nbits w : Nat) : State := presentNext s (tableEdge nbits w)

end Sys2Proof.Machine
end

