-- ==== Sys2Proof/Machine/Encodings.lean ====
section
/-!
DEFINITION. The bit encodings of the enumerated state, for an implementation that stores it as bits
(spec/30_encoding R90), and the finite counters of such an implementation (spec/92 D6, U6): an
increment that does not fit its width is refused, never wrapped. The model's own state is the
reference (log 2); nothing in `step` reads these.
-/

namespace Sys2Proof.Machine

/-- R90: a flag, `1` = set. -/
def flagBit (x : Bool) : BitVec 1 := BitVec.ofBool x

/-- R90: `ED.state`, `1` = HIGH, `0` = LOW. -/
def Ed.bits (cell : Ed) : BitVec 1 :=
  match cell.state with
  | .high => 1
  | .low => 0

/-- R90: `ED.state` read back from its bit. -/
def Ed.ofBits (w : BitVec 1) : Ed := { state := if w = 1 then .high else .low }

/-- R90: `K.step`, `S.step`, `S.out_step`, 3-bit unsigned. -/
def stepBits (i : Fin 8) : BitVec 3 := BitVec.ofFin i

/-- R90: `C.cur`, `C.prev`, 3-bit unsigned, values 0..5. -/
def sceneBits (i : Fin 6) : BitVec 3 := BitVec.ofNat 3 i.val

/-- R90: `GL.wr`, `GL.rd`, 15-bit unsigned; none where the cursor does not fit. -/
def cursorBits (n : Nat) : Option (BitVec 15) := if n < 2 ^ 15 then some (BitVec.ofNat 15 n) else none

/-- R90, U6: the counter of width `width` after an increment; none where the increment would
overflow. -/
def counterSucc (width : Nat) (n : BitVec width) : Option (BitVec width) :=
  if n.toNat + 1 < 2 ^ width then some (n + 1) else none

end Sys2Proof.Machine
end

