-- ==== Sys2Proof/Safety.lean ====
section
/-!
DEFINITION. What claims about the block are stated in: legal operands word for word as spec/30_encoding
R88 gives them, the units and what it means that a unit's state is the same in two states
(spec/00_scope R3), running a list of commands, and the invariant of the reachable states
(spec/20_memory R73, spec/10_state R25, R27, R40, spec/43 R165, R174, spec/46 R221).
-/

namespace Sys2Proof.Safety

open Sys2Proof.Machine

/-! ### Legal operands -/

/-- R88: a draw. -/
def InDrawRange (u : Q) : Prop := 0 ≤ u ∧ u < 1

/-- R88: "`dt ≥ 0`, `sr > 0`". -/
def LegalRate (dt sr : Q) : Prop := 0 ≤ dt ∧ 0 < sr

/-- R88: the command's operands meet every precondition. That `TICK.MIXBUS` has a `dt` and
`sr` to meet one is the model's choice (log 19). -/
def LegalOperands : Instr → Prop
  | .nop => True
  | .reset => True
  | .gwr b => b.s ≤ 7 ∧ b.c ≤ 4
  | .tickVoice0 b => LegalRate b.dt b.sr ∧ b.lengthParam < 7
  | .tickVoice1 b => LegalRate b.dt b.sr ∧ b.lengthParam < 7
  | .tickVoice2 b => LegalRate b.dt b.sr ∧ b.lengthParam < 7
  | .tickVoice3 b => LegalRate b.dt b.sr ∧ b.lengthParam < 7
  | .tickVoice4 b => LegalRate b.dt b.sr ∧ b.lengthParam < 7
  | .tickBitcrush b => LegalRate b.dt b.sr
  | .tickDecimate b => LegalRate b.dt b.sr
  | .tickDistort b => LegalRate b.dt b.sr
  | .tickGlitch b d => LegalRate b.dt b.sr ∧ InDrawRange d.uStart ∧ InDrawRange d.uLen
  | .tickCrop b d => LegalRate b.dt b.sr ∧ InDrawRange d.uStart ∧ InDrawRange d.uLen
  | .tickKlok b => LegalRate b.dt b.sr ∧ (b.run = true → 0 < b.bpm)
  | .tickSecu b =>
    LegalRate b.dt b.sr ∧ 1 ≤ b.nsteps ∧ b.nsteps ≤ 8 ∧
      InDrawRange b.uProb ∧ InDrawRange b.uStep ∧ ∀ a : Fin 40, InDrawRange b.uCell[a]
  | .tickScener b =>
    LegalRate b.dt b.sr ∧ 1 ≤ b.nscenes ∧ b.nscenes ≤ 6 ∧
      ∃ s : Fin 6, s.val < b.nscenes ∧ 1 ≤ b.len[s]
  | .tickMixbus b => LegalRate b.dt b.sr

/-! ### Units -/

/-- R2: the composite units. -/
inductive UnitId where
  | voice (v : Fin 5)
  | bitcrush
  | decimate
  | distort
  | glitch
  | crop
  | klok
  | secu
  | scener
  | mixbus
  deriving DecidableEq, Repr

/-- R82: the unit of an effect, by the document's effect index. -/
def effectUnit (e : Fin 5) : UnitId :=
  match e with
  | 0 => .bitcrush
  | 1 => .decimate
  | 2 => .distort
  | 3 => .glitch
  | 4 => .crop

/-- R82: the unit a command ticks; none for `NOP` (no unit) and `RESET` (all of them). -/
def unitOf : Instr → Option UnitId
  | .nop => none
  | .reset => none
  | .gwr _ => some .secu
  | .tickVoice0 _ => some (.voice 0)
  | .tickVoice1 _ => some (.voice 1)
  | .tickVoice2 _ => some (.voice 2)
  | .tickVoice3 _ => some (.voice 3)
  | .tickVoice4 _ => some (.voice 4)
  | .tickBitcrush _ => some .bitcrush
  | .tickDecimate _ => some .decimate
  | .tickDistort _ => some .distort
  | .tickGlitch _ _ => some .glitch
  | .tickCrop _ _ => some .crop
  | .tickKlok _ => some .klok
  | .tickSecu _ => some .secu
  | .tickScener _ => some .scener
  | .tickMixbus _ => some .mixbus

/-- R3: all of a unit's state and output registers is the same in two states; of the glitch buffer,
every element reads the same. -/
def SameUnit (s t : State) : UnitId → Prop
  | .voice v => t.voice[v] = s.voice[v]
  | .bitcrush => t.fxOut[(0 : Fin 5)] = s.fxOut[(0 : Fin 5)]
  | .decimate => t.decim = s.decim ∧ t.fxOut[(1 : Fin 5)] = s.fxOut[(1 : Fin 5)]
  | .distort => t.fxOut[(2 : Fin 5)] = s.fxOut[(2 : Fin 5)]
  | .glitch =>
    (∀ a, t.glitch.buf.read a = s.glitch.buf.read a) ∧ t.glitch = s.glitch ∧
      t.fxOut[(3 : Fin 5)] = s.fxOut[(3 : Fin 5)]
  | .crop => t.crop = s.crop ∧ t.fxOut[(4 : Fin 5)] = s.fxOut[(4 : Fin 5)]
  | .klok => t.klok = s.klok
  | .secu => t.secu = s.secu
  | .scener => t.scener = s.scener
  | .mixbus => t.mixOut = s.mixOut

/-- R120: the command that ticks voice `v`. -/
def voiceCommand (v : Fin 5) (b : VoiceOps) : Instr :=
  match v with
  | 0 => .tickVoice0 b
  | 1 => .tickVoice1 b
  | 2 => .tickVoice2 b
  | 3 => .tickVoice3 b
  | 4 => .tickVoice4 b

/-! ### Broken preconditions -/

/-- R88: the `dt` and `sr` of a command that carries them (log 19 for `TICK.MIXBUS`). -/
def rateOperands : Instr → Option (Q × Q)
  | .nop => none
  | .reset => none
  | .gwr _ => none
  | .tickVoice0 b => some (b.dt, b.sr)
  | .tickVoice1 b => some (b.dt, b.sr)
  | .tickVoice2 b => some (b.dt, b.sr)
  | .tickVoice3 b => some (b.dt, b.sr)
  | .tickVoice4 b => some (b.dt, b.sr)
  | .tickBitcrush b => some (b.dt, b.sr)
  | .tickDecimate b => some (b.dt, b.sr)
  | .tickDistort b => some (b.dt, b.sr)
  | .tickGlitch b _ => some (b.dt, b.sr)
  | .tickCrop b _ => some (b.dt, b.sr)
  | .tickKlok b => some (b.dt, b.sr)
  | .tickSecu b => some (b.dt, b.sr)
  | .tickScener b => some (b.dt, b.sr)
  | .tickMixbus b => some (b.dt, b.sr)

/-- R85, R86, R88: `u` is one of the draws a command carries. -/
def HasDraw (i : Instr) (u : Q) : Prop :=
  (∃ b d, (i = .tickGlitch b d ∨ i = .tickCrop b d) ∧ (u = d.uStart ∨ u = d.uLen)) ∨
    ∃ b, i = .tickSecu b ∧ (u = b.uProb ∨ u = b.uStep ∨ ∃ a : Fin 40, u = b.uCell[a])

/-- R88: the operands of the command break this precondition. -/
def Breaks (i : Instr) : OperandProblem → Prop
  | .negativeDt => ∃ dt sr, rateOperands i = some (dt, sr) ∧ dt < 0
  | .sampleRateNotPositive => ∃ dt sr, rateOperands i = some (dt, sr) ∧ sr ≤ 0
  | .drawOutOfRange => ∃ u, HasDraw i u ∧ ¬ InDrawRange u
  | .lengthParamTooLarge => ∃ v b, i = voiceCommand v b ∧ 7 ≤ b.lengthParam
  | .bpmNotPositive => ∃ b, i = .tickKlok b ∧ b.run = true ∧ b.bpm ≤ 0
  | .stepCountOutOfRange => ∃ b, i = .tickSecu b ∧ (b.nsteps < 1 ∨ 8 < b.nsteps)
  | .sceneCountOutOfRange => ∃ b, i = .tickScener b ∧ (b.nscenes < 1 ∨ 6 < b.nscenes)
  | .noSceneLength => ∃ b, i = .tickScener b ∧ ∀ s : Fin 6, s.val < b.nscenes → b.len[s] = 0
  | .gridIndexOutOfRange => ∃ b, i = .gwr b ∧ (7 < b.s ∨ 4 < b.c)

/-! ### Runs -/

/-- R68: commands executed one after another, each to completion, stopping at the first that has no
next state. -/
def execAll : List Instr → State → StepOutcome
  | [], s => .next s
  | i :: is, s =>
    match exec i s with
    | .next t => execAll is t
    | .fault f => .fault f
    | .refused r => .refused r

/-! ### The invariant -/

/-- R25, R27: a level or phase in `[0,1]`. -/
def InUnit (x : Q) : Prop := 0 ≤ x ∧ x ≤ 1

/-- R25, R27, R108, R128: a voice in a reachable state. -/
structure VoiceInv (v : Fin 5) (x : Voice) : Prop where
  osc : InUnit x.osc.val
  amp : InUnit x.amp.val
  ampRate : 0 ≤ x.ampRate
  lock : 0 ≤ x.lock
  oOsc : InUnit x.oOsc
  oAmp : InUnit x.oAmp
  oEnv : InUnit x.oEnv
  oEnvB : InUnit x.oEnvB
  oLight : InUnit x.oLight
  oGate : x.oGate = 0 ∨ x.oGate = 1
  noSecondEnv : v ≠ 1 → x.oEnvB = 0

/-- R73, R165: the glitch buffer in a reachable state. -/
structure GlitchInv (g : Glitch) : Prop where
  wf : g.buf.wf = true
  fillPhase : g.filling = true →
    g.wr < CAP ∧ g.rd = 0 ∧ g.thr = 0 ∧ ∀ a, g.wr ≤ a → g.buf.read a = unwritten
  fullPhase : g.filling = false → g.wr = CAP
  thrNonneg : 0 ≤ g.thr
  thrBelowCap : g.thr < (CAP : Q)
  rdBound : (g.rd : Int) ≤ ⌈g.thr⌉

/-- R174: the crop in a reachable state. -/
structure CropInv (c : Crop) : Prop where
  thrNonneg : 0 ≤ c.thr
  cntBound : (c.cnt : Int) ≤ ⌈c.thr⌉

/-- R110, R180 to R186: the clock divider in a reachable state. -/
structure KlokInv (k : Klok) : Prop where
  cnt : 0 ≤ k.cnt
  period : 0 ≤ k.period
  stopped : k.rstArmed = true → k.cnt = 0 ∧ k.period = 0 ∧ k.step = 0
  oClk : k.oClk = 0 ∨ k.oClk = V_GATE
  oRst : k.oRst = 0 ∨ k.oRst = V_GATE
  oDiv : ∀ i : Fin 8, k.oDiv[i] = 0 ∨ k.oDiv[i] = V_GATE
  oLight : k.oLight = 0 ∨ k.oLight = 1

/-- R108, R205: the step sequencer in a reachable state. -/
structure SecuInv (q : Secu) : Prop where
  randLock : 0 ≤ q.randLock
  oLight : ∀ i : Fin 8, q.oLight[i] = 0 ∨ q.oLight[i] = 1

/-- R25, R221, R231: the scene crossfader in a reachable state. -/
structure ScenerInv (c : Scener) : Prop where
  ramp : InUnit c.ramp.val
  startup : c.starting = true →
    c.cur = 0 ∧ c.prev = 0 ∧ c.steps = 0 ∧ c.sceneSteps = 0 ∧ c.finished = false
  oAlert : ∀ j : Fin 2, c.oAlert[j] = 0 ∨ c.oAlert[j] = V_GATE
  oAlight : ∀ j : Fin 2, c.oAlight[j] = 0 ∨ c.oAlight[j] = 1

/-- What holds of the machine in every reachable state. -/
structure StateInv (s : State) : Prop where
  voice : ∀ v : Fin 5, VoiceInv v s.voice[v]
  glitch : GlitchInv s.glitch
  crop : CropInv s.crop
  decim : s.decim.cnt < 32
  klok : KlokInv s.klok
  secu : SecuInv s.secu
  scener : ScenerInv s.scener

/-- R83, R88: the two refusals the spec asks for, of a reserved word and of illegal operands. -/
def SpecRefusal (r : Refusal) : Prop := (∃ w, r = .reservedWord w) ∨ ∃ p, r = .illegalOperand p

/-- A run is safe when no step of it stops with a fault, since the block raises no exception (R270), nor
with a refusal but the two the spec asks for. -/
def Safe : Nat → State → Prop
  | 0, _ => True
  | n + 1, s =>
    match step s with
    | .next t => Safe n t
    | .fault _ => False
    | .refused r => SpecRefusal r

end Sys2Proof.Safety
end

