-- ==== Sys2Proof/Certificates/Slice0/Obligations.lean ====
section
/-!
DEFINITION. The statements for the provers, each from the spec's own numbered rules. The vocabulary
under `Claims` writes the spec's formulas out with their numbers, apart from the definitions the
meanings use, so that a statement says what the rule says and not what the model does.
-/

namespace Sys2Proof.Claims

open Sys2Proof.Machine Sys2Proof.Safety

/-- `clamp(x, 0, 1)`. -/
def clamp01 (x : Q) : Q := max 0 (min x 1)

/-- R102: the tick on which an edge detector reports an edge. -/
abbrev Edge (c : Ed) (v : Q) : Prop := c.state = .low ∧ 1 ≤ v

/-- R102: an edge detector after the input `v`. -/
def edAfter (c : Ed) (v : Q) : Ed :=
  { state := if c.state = .high then (if v ≤ 0 then .low else .high)
             else (if 1 ≤ v then .high else .low) }

/-- R104: the level a pulse generator returns. -/
def pulse (rem : Q) : Q := if 0 < rem then 1 else 0

/-- R104: a pulse generator after it is processed. -/
def pulseAfter (rem dt : Q) : Pg := { rem := if 0 < rem then rem - dt else rem }

/-- R103: what remains after a trigger of duration `d`, if it is triggered. -/
def armed (triggered : Bool) (rem d : Q) : Q := if triggered = true ∧ rem < d then d else rem

/-- R107: the envelope. -/
def envelope (r : Q) (k : Nat) : Q :=
  clamp01 (if r < 1 / 50 then r / (1 / 50) else (1 - r + 1 / 50) ^ k)

/-- R101: linear interpolation from `a` to `b`. -/
def blend (a b p : Q) : Q := a + (b - a) * p

/-- R109: the intensity of an effect. -/
def effectIntensity (b : FxOps) : Q :=
  clamp01 (if b.cvConn = true then b.param + b.cv * (1 / 10) * b.att else b.param)

/-- R124: the exponent of a voice's primary envelope. -/
def primaryExponent (v : Fin 5) : Nat := if v = 2 then 10 else 2

/-- R120: the voice fires. -/
abbrev VoiceFires (b : VoiceOps) (x : Voice) : Prop := 1 / 100 ≤ b.trigParam ∨ Edge x.ed b.trigIn

/-- R122: the voice re-triggers. -/
abbrev VoiceGoes (b : VoiceOps) (x : Voice) : Prop :=
  VoiceFires b x ∧ (x.prevTrig = 0 ∨ x.lock ≤ 0)

/-- R122, R123: the amplitude ramp after a connected tick. -/
def voiceAmp (b : VoiceOps) (x : Voice) : Q :=
  clamp01 ((if VoiceGoes b x then 0 else x.amp.val) + (7 - b.lengthParam) * b.dt)

/-- R122, R123: the oscillator ramp after a connected tick. -/
def voiceOsc (b : VoiceOps) (x : Voice) : Q :=
  clamp01 ((if VoiceGoes b x then 0 else x.osc.val) + 10 * b.dt)

/-- R122: what remains of the gate pulse after the trigger step of a connected tick. -/
def voicePulse (b : VoiceOps) (x : Voice) : Q :=
  armed (decide (VoiceGoes b x)) x.pg.rem (1 / (7 - b.lengthParam))

/-- R120 to R126: a voice after a connected tick. -/
def voiceAfter (v : Fin 5) (b : VoiceOps) (x : Voice) : Voice where
  osc := { val := voiceOsc b x }
  amp := { val := voiceAmp b x }
  ampRate := 7 - b.lengthParam
  prevTrig := b.trigParam
  lock := if VoiceGoes b x then b.sr / 4
    else if VoiceFires b x then max 0 (min (x.lock - 1) b.sr) else x.lock
  ed := edAfter x.ed b.trigIn
  pg := pulseAfter (voicePulse b x) b.dt
  oOsc := voiceOsc b x
  oAmp := voiceAmp b x
  oEnv := envelope (voiceAmp b x) (primaryExponent v)
  oEnvB := if v = 1 then envelope (voiceAmp b x) 6 else 0
  oGate := pulse (voicePulse b x)
  oLight := envelope (voiceAmp b x) (primaryExponent v)

/-- R183: samples per master tick. -/
def tickPeriod (b : KlokOps) : Q := 60 * b.sr / (b.bpm * 2)

/-- R184: the counter exceeds the period on this RUNNING tick. -/
abbrev MasterTick (b : KlokOps) (k : Klok) : Prop := tickPeriod b < k.cnt + 1

/-- R185, R186: the clock divider of which the counters are given, after the pulse processing. -/
def klokAfter (dt cnt period : Q) (step : Fin 8) (armedFlag : Bool) (clk rst : Q) : Klok where
  cnt := cnt
  period := period
  step := step
  rstArmed := armedFlag
  pgClk := pulseAfter clk dt
  pgRst := pulseAfter rst dt
  oClk := 10 * pulse clk
  oRst := 10 * pulse rst
  oDiv := Vector.ofFn fun i => if step.val % (i.val + 1) = 0 then 10 * pulse clk else 0
  oLight := pulse clk

/-- R202: the randomize button acts on this tick. -/
abbrev RandomizeGoes (b : SecuOps) (q : Secu) : Prop :=
  1 / 100 ≤ b.randBtn ∧ (q.prevRand = 0 ∨ q.randLock ≤ 0)

/-- R202: the grid is randomized on this tick. -/
abbrev Randomizes (b : SecuOps) (q : Secu) : Prop := RandomizeGoes b q ∨ Edge q.edRand b.randIn

/-- R201: the sequential step index after the reset step of the tick. -/
def stepAfterReset (b : SecuOps) (q : Secu) : Fin 8 := if Edge q.edRst b.rstIn then 0 else q.step

/-- R224: the sum of the lengths of the scenes before scene `k`. -/
def lengthsBefore (b : ScenerOps) (k : Nat) : Nat := ∑ s : Fin 6, if s.val < k then b.len[s] else 0

/-- R224: the scan selects scene `s` at step count `n`. -/
def Selected (b : ScenerOps) (n : Nat) (s : Fin 6) : Prop :=
  s.val < b.nscenes ∧ lengthsBefore b s.val < n ∧
    (n ≤ lengthsBefore b (s.val + 1) ∨ s.val + 1 = b.nscenes)

/-- R222: the reset button is held or the reset input shows an edge. -/
abbrev SceneReset (b : ScenerOps) (c : Scener) : Prop :=
  1 / 100 ≤ b.rstBtn ∨ Edge c.edRst b.rstIn

/-- R222: the current scene after the reset step. -/
def curAfterReset (b : ScenerOps) (c : Scener) : Fin 6 := if SceneReset b c then 0 else c.cur

/-- R222: the step counter after the reset step. -/
def stepsAfterReset (b : ScenerOps) (c : Scener) : Nat := if SceneReset b c then 0 else c.steps

/-- R222: the finished flag after the reset step. -/
def finishedAfterReset (b : ScenerOps) (c : Scener) : Bool :=
  if SceneReset b c then false else c.finished

/-- R223: a trigger edge that is acted on. -/
abbrev SceneEdge (b : ScenerOps) (c : Scener) : Prop :=
  Edge c.edTrig b.trigIn ∧ finishedAfterReset b c = false

/-- R228: alert `j` of a scene has its marker at per-scene step `n`. -/
abbrev MarkerAt (b : ScenerOps) (scene : Fin 6) (j : Fin 2) (n : Nat) : Prop :=
  (n : Int) = ⌊b.alert[scene][j] * (b.len[scene] : Q)⌋

/-- R221: what remains of alert pulse `j` after the startup step. -/
def alertAfterStart (b : ScenerOps) (c : Scener) (j : Fin 2) : Q :=
  armed (c.starting && decide (MarkerAt b c.cur j c.sceneSteps)) c.pgAlert[j].rem (1 / 1000)

/-- R229: the ramp after its advance. -/
def rampAfter (b : ScenerOps) (r : Q) : Q :=
  if b.ttime ≤ 0 then 1 else clamp01 (r + 1 / b.ttime * b.dt)

/-- R230, R231: the scene crossfader of which the sequencing state is given, after the outputs. -/
def scenerAfter (b : ScenerOps) (c : Scener) (cur prev : Fin 6) (steps sceneSteps : Nat) (ramp : Q)
    (fin : Bool) (alerts : Fin 2 → Q) : Scener where
  cur := cur
  prev := prev
  steps := steps
  sceneSteps := sceneSteps
  ramp := { val := ramp }
  finished := fin
  starting := false
  edTrig := edAfter c.edTrig b.trigIn
  edRst := edAfter c.edRst b.rstIn
  pgAlert := Vector.ofFn fun j => pulseAfter (alerts j) b.dt
  oCol := Vector.ofFn fun col =>
    if fin = true then sceneInput b prev col * (1 - ramp)
    else blend (sceneInput b prev col) (sceneInput b cur col) ramp
  oAlert := Vector.ofFn fun j => 10 * pulse (alerts j)
  oAlight := Vector.ofFn fun j => pulse (alerts j)

/-- R291: the machine is at rest, every field at its reset value. -/
def AtReset (t : State) : Prop :=
  (∀ r : OutReg, readOut t r = 0) ∧
  (∀ v : Fin 5, t.voice[v].osc.val = 0 ∧ t.voice[v].amp.val = 0 ∧ t.voice[v].ampRate = 0 ∧
    t.voice[v].prevTrig = 0 ∧ t.voice[v].lock = 0 ∧ t.voice[v].ed.state = .high ∧
    t.voice[v].pg.rem = 0) ∧
  (∀ a, t.glitch.buf.read a = 0) ∧ t.glitch.buf.wf = true ∧ t.glitch.wr = 0 ∧ t.glitch.rd = 0 ∧
  t.glitch.thr = 0 ∧ t.glitch.filling = true ∧
  t.crop.cnt = 0 ∧ t.crop.thr = 0 ∧ t.decim.cnt = 0 ∧ t.decim.held = 0 ∧
  t.klok.cnt = 0 ∧ t.klok.period = 0 ∧ t.klok.step = 0 ∧ t.klok.rstArmed = true ∧
  t.klok.pgClk.rem = 0 ∧ t.klok.pgRst.rem = 0 ∧
  (∀ i j, t.secu.cell i j = 0) ∧ t.secu.step = 0 ∧ t.secu.outStep = 0 ∧ t.secu.randLock = 0 ∧
  t.secu.prevRand = 0 ∧ t.secu.edTrig.state = .high ∧ t.secu.edRst.state = .high ∧
  t.secu.edRand.state = .high ∧
  t.scener.cur = 0 ∧ t.scener.prev = 0 ∧ t.scener.steps = 0 ∧ t.scener.sceneSteps = 0 ∧
  t.scener.ramp.val = 0 ∧ t.scener.finished = false ∧ t.scener.starting = true ∧
  t.scener.edTrig.state = .high ∧ t.scener.edRst.state = .high ∧
  ∀ j : Fin 2, t.scener.pgAlert[j].rem = 0

/-- R82: the words of the command map. -/
def mapWords : List CmdWord :=
  [0x00, 0x01, 0x02, 0x10, 0x11, 0x12, 0x13, 0x14, 0x20, 0x21, 0x22, 0x23, 0x24, 0x30, 0x40, 0x50, 0x60]

/-- An effect's input and output are both connected. -/
abbrev Connected (b : FxOps) : Prop := b.inConn = true ∧ b.outConn = true

end Sys2Proof.Claims

open Sys2Proof Sys2Proof.Machine Sys2Proof.Safety Sys2Proof.Claims

/-! ### Encoding -/

/-- R82, R83: the seventeen words of the command map and what each stands for, the operands from the
command's own ports, and every other word rejected. -/
def Obligations.CommandMapWords : Prop :=
  ∀ p : OperandPorts,
    decode 0x00 p = .ok .nop ∧ decode 0x01 p = .ok .reset ∧ decode 0x02 p = .ok (.gwr p.gwr) ∧
    decode 0x10 p = .ok (.tickVoice0 p.voice) ∧ decode 0x11 p = .ok (.tickVoice1 p.voice) ∧
    decode 0x12 p = .ok (.tickVoice2 p.voice) ∧ decode 0x13 p = .ok (.tickVoice3 p.voice) ∧
    decode 0x14 p = .ok (.tickVoice4 p.voice) ∧ decode 0x20 p = .ok (.tickBitcrush p.fx) ∧
    decode 0x21 p = .ok (.tickDecimate p.fx) ∧ decode 0x22 p = .ok (.tickDistort p.fx) ∧
    decode 0x23 p = .ok (.tickGlitch p.fx p.draws) ∧ decode 0x24 p = .ok (.tickCrop p.fx p.draws) ∧
    decode 0x30 p = .ok (.tickKlok p.klok) ∧ decode 0x40 p = .ok (.tickSecu p.secu) ∧
    decode 0x50 p = .ok (.tickScener p.scener) ∧ decode 0x60 p = .ok (.tickMixbus p.mixbus) ∧
    ∀ w, w ∉ mapWords → decode w p = .error (.reservedWord w)

/-- R81, R82: decoding the word and ports of a command gives the command back, on any operand ports
that carry its operands; and a word that decodes is the word of the command it decodes to, whose
operands are those of the ports. -/
def Obligations.DecodeAndEncodeAgree : Prop :=
  (∀ i : Instr, decode (encode i).1 (encode i).2 = .ok i) ∧
  (∀ (i : Instr) (p : OperandPorts), decode i.word (i.drive p) = .ok i) ∧
  ∀ (w : CmdWord) (p : OperandPorts) (i : Instr),
    decode w p = .ok i → i.word = w ∧ i.drive p = p ∧ w ∈ mapWords

/-! ### The step -/

/-- R80: an edge with `cmd_valid` runs the command its word and ports stand for, on the state with
that edge taken. That the host's edges are a list in the state is the model's choice (log 4). -/
def Obligations.StepRunsDecodedCommand : Prop :=
  ∀ (s : State) (e : ClockEdge) (es : List ClockEdge) (i : Instr),
    s.inputs = e :: es → e.rst = false → e.cmdValid = true → decode e.cmd e.ports = .ok i →
      step s = exec i { s with inputs := es }

/-- R260: an edge without `cmd_valid` has the effect of `NOP`, which changes nothing; a host that
presents no more edges (log 4, the model's choice) leaves the state as it is. -/
def Obligations.NopAndIdleEdgesChangeNothing : Prop :=
  ∀ s : State, exec .nop s = .next s ∧ (s.inputs = [] → step s = .next s) ∧
    ∀ (e : ClockEdge) (es : List ClockEdge),
      s.inputs = e :: es → e.rst = false → e.cmdValid = false → step s = .next { s with inputs := es }

/-- R83: "A model should refuse a reserved word". -/
def Obligations.ReservedWordRefused : Prop :=
  ∀ (s : State) (e : ClockEdge) (es : List ClockEdge),
    s.inputs = e :: es → e.rst = false → e.cmdValid = true → e.cmd ∉ mapWords →
      step s = .refused (.reservedWord e.cmd)

/-- R290: an edge with `rst` puts every field in its reset value whatever `cmd_valid` and `cmd` are,
and `RESET` is the same event. The host's later edges stay (log 4, the model's choice). -/
def Obligations.ResetEdgeAndCommandAreOneEvent : Prop :=
  ∀ (s : State) (e : ClockEdge) (es : List ClockEdge), s.inputs = e :: es → e.rst = true →
    ∃ t : State, step s = .next t ∧ AtReset t ∧ t.inputs = es ∧
      exec .reset { s with inputs := es } = .next t

/-- R261: `RESET` puts every state field and output register in its reset value, from any state. -/
def Obligations.ResetCommandResetsEverything : Prop :=
  ∀ s : State, ∃ t : State, exec .reset s = .next t ∧ AtReset t

/-- R291: the reset values. -/
def Obligations.ResetStateIsAtRest : Prop := AtReset State.reset

/-! ### Legality, completion, units -/

/-- R88: a command is refused for its operands exactly when they break a precondition, and the refusal
names one that they break. That a tick which would be skipped is refused too is log 8, that `TICK.MIXBUS`
has a `dt` and `sr` to check is log 19: the model's choices. -/
def Obligations.IllegalOperandsRefused : Prop :=
  ∀ (i : Instr) (s : State),
    ((∃ p, exec i s = .refused (.illegalOperand p)) ↔ ¬ LegalOperands i) ∧
    ∀ p, exec i s = .refused (.illegalOperand p) → Breaks i p

/-- R276, R65: with legal operands every command completes, in every state whose glitch buffer meets
its invariant (no other state's premise is needed, and no command but `TICK.GLITCH` needs that). That
`TICK.MIXBUS` has a `dt` and `sr` to be legal is log 19, the model's choice. -/
def Obligations.LegalCommandsComplete : Prop :=
  ∀ (i : Instr) (s : State), LegalOperands i →
    ((∃ b d, i = .tickGlitch b d) → GlitchInv s.glitch) → ∃ t : State, exec i s = .next t

/-- R3: "No rule of one unit reads or writes the state of another unit." A command leaves every unit
but its own as it was, and what it makes of its own unit depends on that unit alone. -/
def Obligations.UnitsShareNoState : Prop :=
  (∀ (i : Instr) (s t : State), i ≠ .reset → exec i s = .next t →
    ∀ u : UnitId, unitOf i ≠ some u → SameUnit s t u) ∧
  ∀ (i : Instr) (u : UnitId) (s s' t : State), unitOf i = some u → SameUnit s s' u →
    exec i s = .next t → ∃ t' : State, exec i s' = .next t' ∧ SameUnit t t' u

/-- Section 3 of 60_exceptions: the order in which the commands of different units are issued changes
no result. -/
def Obligations.CommandsOfDifferentUnitsCommute : Prop :=
  ∀ (i j : Instr) (u v : UnitId) (s t w : State), unitOf i = some u → unitOf j = some v → u ≠ v →
    exec i s = .next t → exec j t = .next w →
      ∃ t' : State, exec j s = .next t' ∧ exec i t' = .next w

/-! ### Invariants -/

/-- Every step keeps the invariant of the reachable states. -/
def Obligations.StepKeepsInvariant : Prop :=
  ∀ s t : State, StateInv s → step s = .next t → StateInv t

/-- The state after reset meets the invariant. -/
def Obligations.ResetMeetsInvariant : Prop := StateInv State.reset

/-- R270: no run from a state that meets the invariant ends in a fault, whatever the host presents; where
one stops, it is refused as a reserved word or for illegal operands. -/
def Obligations.RunsNeverFault : Prop := ∀ (n : Nat) (s : State), StateInv s → Safe n s

/-! ### Cells and shared functions -/

/-- R102: the edge detector, its hysteresis and its one report per edge. -/
def Obligations.EdgeDetectorHysteresis : Prop :=
  ∀ (c : Ed) (v : Q),
    (c.state = .high → v ≤ 0 → c.proc v = ({ state := .low }, false)) ∧
    (c.state = .high → 0 < v → c.proc v = (c, false)) ∧
    (c.state = .low → 1 ≤ v → c.proc v = ({ state := .high }, true)) ∧
    (c.state = .low → v < 1 → c.proc v = (c, false))

/-- R103: a trigger extends a pulse and never shortens it. -/
def Obligations.PulseTriggerExtends : Prop :=
  ∀ (c : Pg) (d : Q), (c.rem < d → (c.trig d).rem = d) ∧ (d ≤ c.rem → c.trig d = c)

/-- R104: the pulse generator, and the length of its pulse: armed with `d` from rest and processed with
a constant `dt`, it returns 1 on exactly `ceil(d/dt)` consecutive ticks, then 0. -/
def Obligations.PulseLength : Prop :=
  (∀ (c : Pg) (dt : Q), c.proc dt = (pulseAfter c.rem dt, pulse c.rem)) ∧
  ∀ (d dt : Q) (n : Nat), 0 < d → 0 < dt →
    (((fun c : Pg => (c.proc dt).1)^[n] ({ rem := d } : Pg)).proc dt).2 =
      if (n : Int) < ⌈d / dt⌉ then 1 else 0

/-- R105, R106: the ramp clears to 0, advances by `rate × dt` clamped to `[0,1]`, and does not fall
while `rate × dt ≥ 0`. -/
def Obligations.RampClearsAndAdvances : Prop :=
  ∀ (c : Rp) (rate dt : Q), c.clr.val = 0 ∧ (c.adv rate dt).val = clamp01 (c.val + rate * dt) ∧
    InUnit (c.adv rate dt).val ∧
    (InUnit c.val → 0 ≤ rate * dt → c.val ≤ (c.adv rate dt).val)

/-- R89: the control words of the cells: hold, one operation, or the operation of bit 1 and then that of
bit 0. That a held edge detector reports no edge and an unprocessed pulse generator the level 0 is the
model's choice (log 17). -/
def Obligations.CellControlWords : Prop :=
  (∀ (c : Ed) (v : Q), c.drive 0b0 v = (c, false) ∧ c.drive 0b1 v = c.proc v) ∧
  (∀ (c : Pg) (d dt : Q), c.drive 0b00 d dt = (c, 0) ∧ c.drive 0b01 d dt = c.proc dt ∧
    c.drive 0b10 d dt = (c.trig d, 0) ∧ c.drive 0b11 d dt = (c.trig d).proc dt) ∧
  ∀ (c : Rp) (rate dt : Q), c.drive 0b00 rate dt = c ∧ c.drive 0b01 rate dt = c.adv rate dt ∧
    c.drive 0b10 rate dt = c.clr ∧ c.drive 0b11 rate dt = c.clr.adv rate dt

/-- R107: the envelope, for a ramp value in `[0,1]`: a linear rise to the corner at 1/50, where both
branches give 1, then a power-curve decay; always in `[0,1]`, so the clamp does not act. -/
def Obligations.EnvelopeShape : Prop :=
  ∀ (r : Q) (k : Nat), env r k = envelope r k ∧ (InUnit r →
    InUnit (env r k) ∧ (r < 1 / 50 → env r k = 50 * r) ∧ (1 / 50 ≤ r → env r k = (51 / 50 - r) ^ k) ∧
    (r = 1 / 50 → env r k = 1))

/-- R108: the held-button lockout, and its period: after an action a held button acts again on the
tick after `ceil(sr/4)` ticks that do not act. -/
def Obligations.LockoutRepeatsEveryQuarterSecond : Prop :=
  (∀ (prev lock sr : Q),
    lockout false prev lock sr = (false, lock) ∧
    (prev = 0 ∨ lock ≤ 0 → lockout true prev lock sr = (true, sr / 4)) ∧
    (prev ≠ 0 → 0 < lock → lockout true prev lock sr = (false, max 0 (min (lock - 1) sr)))) ∧
  ∀ (prev sr : Q) (n : Nat), prev ≠ 0 → 0 < sr → (n : Int) ≤ ⌈sr / 4⌉ →
    (lockout true prev ((fun l => (lockout true prev l sr).2)^[n] (sr / 4)) sr).1 =
      decide ((n : Int) = ⌈sr / 4⌉)

/-- R109: the intensity, and that it is always in `[0,1]`. -/
def Obligations.QuantityIsClampedIntensity : Prop :=
  ∀ (param cv att : Q),
    quantity param true cv att = clamp01 (param + cv * (1 / 10) * att) ∧
    quantity param false cv att = clamp01 param ∧
    InUnit (quantity param true cv att) ∧ InUnit (quantity param false cv att)

/-- R101: the crossfade's two forms, its two ends, and that the weight is not clamped. -/
def Obligations.CrossfadeIsLinear : Prop :=
  ∀ a b p : Q, xfade a b p = a + (b - a) * p ∧ xfade a b p = a * (1 - p) + b * p ∧
    xfade a b 0 = a ∧ xfade a b 1 = b

/-- R12: `round_haz` gives a nearest integer, and of two equally near the one further from 0. -/
def Obligations.RoundHalfAwayFromZero : Prop :=
  ∀ x : Q, |x - (roundHaz x : Q)| ≤ 1 / 2 ∧
    (|x - (roundHaz x : Q)| = 1 / 2 → |x| < |(roundHaz x : Q)|)

/-- R111: what is known of `EXP2` and `TANH`. -/
def Obligations.ConfigurationFunctionsMeetTheirProperties : Prop :=
  (∀ n : Int, Config.exp2 (n : Q) = (2 : Q) ^ n) ∧ (∀ x, 0 < Config.exp2 x) ∧
  (∀ x y, x ≤ y → Config.exp2 x ≤ Config.exp2 y) ∧ Config.tanh 0 = 0 ∧
  (∀ x, Config.tanh (-x) = -Config.tanh x) ∧ (∀ x, -1 ≤ Config.tanh x ∧ Config.tanh x ≤ 1) ∧
  ∀ x y, x ≤ y → Config.tanh x ≤ Config.tanh y

/-! ### VOICE -/

/-- R120 to R126: a connected tick of any voice, every field of the voice and nothing else. -/
def Obligations.VoiceTickResult : Prop :=
  ∀ (v : Fin 5) (b : VoiceOps) (s : State), 0 ≤ b.dt → 0 < b.sr → b.lengthParam < 7 →
    b.trigConn = true →
      exec (voiceCommand v b) s =
        .next { s with voice := s.voice.set v (voiceAfter v b s.voice[v]) }

/-- R120, R305: while a voice's trigger input is not connected its tick puts its light to 0 and changes
nothing else. -/
def Obligations.DisconnectedVoiceIsFrozen : Prop :=
  ∀ (v : Fin 5) (b : VoiceOps) (s : State), 0 ≤ b.dt → 0 < b.sr → b.lengthParam < 7 →
    b.trigConn = false →
      exec (voiceCommand v b) s =
        .next { s with voice := s.voice.set v { s.voice[v] with oLight := 0 } }

/-- Section 2 of 41_voice_envelope (the spec derives it): on a tick that does not re-trigger, ramps in
`[0,1]` do not fall; after any connected tick the ramps, envelopes and light are in `[0,1]` and the
gate is 0 or 1. -/
def Obligations.VoiceRampsRiseAndStayInUnit : Prop :=
  ∀ (v : Fin 5) (b : VoiceOps) (s t : State), b.trigConn = true →
    exec (voiceCommand v b) s = .next t →
      InUnit t.voice[v].amp.val ∧ InUnit t.voice[v].osc.val ∧ InUnit t.voice[v].oEnv ∧
      InUnit t.voice[v].oEnvB ∧ InUnit t.voice[v].oLight ∧
      (t.voice[v].oGate = 0 ∨ t.voice[v].oGate = 1) ∧
      (¬ VoiceGoes b s.voice[v] → InUnit s.voice[v].amp.val → InUnit s.voice[v].osc.val →
        s.voice[v].amp.val ≤ t.voice[v].amp.val ∧ s.voice[v].osc.val ≤ t.voice[v].osc.val)

/-- R122, R125, R104: a voice re-triggered at rest and then ticked with a constant `dt`, no further
re-trigger, holds its gate high for exactly `ceil((1/gr)/dt)` ticks, the tick of the trigger the first:
what remains after tick `n` of the pulse. -/
def Obligations.GatePulseLength : Prop :=
  ∀ (v : Fin 5) (b c : VoiceOps) (n : Nat) (s : State), 0 < b.dt → 0 < b.sr → b.lengthParam < 7 →
    b.trigConn = true → VoiceGoes b s.voice[v] → s.voice[v].pg.rem ≤ 0 →
    c = { b with trigParam := 0, trigIn := 0 } →
      ∃ t : State,
        execAll (voiceCommand v b :: List.replicate n (voiceCommand v c)) s = .next t ∧
        t.voice[v].oGate = if (n : Int) < ⌈1 / (7 - b.lengthParam) / b.dt⌉ then 1 else 0

/-! ### Effects -/

/-- R141: an effect whose input or output is not connected changes nothing at all. -/
def Obligations.SkippedEffectChangesNothing : Prop :=
  ∀ (b : FxOps) (d : FxDraws) (s : State), 0 ≤ b.dt → 0 < b.sr → ¬ Connected b →
    exec (.tickBitcrush b) s = .next s ∧ exec (.tickDecimate b) s = .next s ∧
    exec (.tickDistort b) s = .next s ∧
    (InDrawRange d.uStart → InDrawRange d.uLen →
      exec (.tickGlitch b d) s = .next s ∧ exec (.tickCrop b d) s = .next s)

/-- R142 to R144: the bitcrusher. -/
def Obligations.BitcrushResult : Prop :=
  ∀ (b : FxOps) (s : State), 0 ≤ b.dt → 0 < b.sr → Connected b →
    exec (.tickBitcrush b) s =
      .next { s with fxOut := s.fxOut.set 0 (blend b.inp
        ((roundHaz (b.inp / Config.exp2 (8 - (1 / 5 + effectIntensity b) * 8)) : Q) *
          Config.exp2 (8 - (1 / 5 + effectIntensity b) * 8)) b.wet) }

/-- Section 2 of 42_effects_stateless (the spec derives it): the crushed sample is an integer multiple
of the step and at most half a step away from the input; at intensity 4/5 the step is 1 and at 1/20 it
is 64; at intensity 0 an input below 32 volts gives silence. -/
def Obligations.BitcrushQuantizes : Prop :=
  (∀ inp q : Q, (∃ n : Int, crush inp q = (n : Q) * crushStep q) ∧
    |crush inp q - inp| ≤ crushStep q / 2) ∧
  crushStep (4 / 5) = 1 ∧ crushStep (1 / 20) = 64 ∧ crushStep (37 / 40) = 1 / 2 ∧
  ∀ inp : Q, |inp| < 32 → crush inp 0 = 0

/-- R142, R143, R146: the distorter. -/
def Obligations.DistortResult : Prop :=
  ∀ (b : FxOps) (s : State), 0 ≤ b.dt → 0 < b.sr → Connected b →
    exec (.tickDistort b) s =
      .next { s with
        fxOut := s.fxOut.set 2 (blend b.inp (Config.tanh (b.inp * (effectIntensity b * 10))) b.wet) }

/-- Section 3 of 42_effects_stateless (the spec derives it): the distorted sample is in `[−1,1]`, odd in
the input, never of the opposite sign, and 0 at intensity 0. -/
def Obligations.DistortIsBoundedAndOdd : Prop :=
  ∀ inp q : Q, InUnit q →
    (-1 ≤ distort inp q ∧ distort inp q ≤ 1) ∧ distort (-inp) q = -distort inp q ∧
    (0 ≤ inp → 0 ≤ distort inp q) ∧ (inp ≤ 0 → distort inp q ≤ 0) ∧ distort inp 0 = 0

/-- R250: the decimator; `N = floor(q × 32)`. -/
def Obligations.DecimateResult : Prop :=
  ∀ (b : FxOps) (s : State), 0 ≤ b.dt → 0 < b.sr → Connected b →
    exec (.tickDecimate b) s =
      if ⌊effectIntensity b * 32⌋ ≤ (s.decim.cnt : Int) + 1 then
        .next { s with decim := { cnt := 0, held := b.inp }, fxOut := s.fxOut.set 1 b.inp }
      else
        .next { s with decim := { s.decim with cnt := s.decim.cnt + 1 },
                       fxOut := s.fxOut.set 1 (blend b.inp s.decim.held b.wet) }

/-- R250, R251: from a re-sample, over connected ticks at one intensity with `N = floor(q × 32)`, the
held sample stays for fewer than `N` ticks and the `N`-th tick takes its input (with `N` of 0 or 1, the
next tick does). -/
def Obligations.DecimateHoldsForNTicks : Prop :=
  ∀ (ops : List FxOps) (last : FxOps) (q : Q) (s : State), s.decim.cnt = 0 →
    (∀ b ∈ ops ++ [last], LegalOperands (.tickDecimate b) ∧ Connected b ∧ effectIntensity b = q) →
      ((ops.length : Int) < max 1 ⌊q * 32⌋ →
        ∃ t : State, execAll (ops.map .tickDecimate) s = .next t ∧ t.decim.held = s.decim.held ∧
          t.decim.cnt = ops.length) ∧
      ((ops.length : Int) + 1 = max 1 ⌊q * 32⌋ →
        ∃ t : State, execAll ((ops ++ [last]).map .tickDecimate) s = .next t ∧
          t.decim.held = last.inp ∧ t.decim.cnt = 0)

/-- R160, R161, R164: a tick of the fill phase, the address it writes and every address it leaves. -/
def Obligations.GlitchFillTick : Prop :=
  ∀ (b : FxOps) (d : FxDraws) (s : State), LegalOperands (.tickGlitch b d) → Connected b →
    s.glitch.buf.wf = true → s.glitch.filling = true → s.glitch.wr < 24000 →
      ∃ buf : Memory,
        exec (.tickGlitch b d) s =
          .next { s with
            glitch := { s.glitch with
              buf := buf
              wr := s.glitch.wr + 1
              filling := decide (s.glitch.wr + 1 ≠ 24000) }
            fxOut := s.fxOut.set 3 b.inp } ∧
        buf.wf = true ∧ ∀ a, buf.read a = if a = s.glitch.wr then b.inp else s.glitch.buf.read a

/-- R160, R162, R164, R66: a replay tick; the old content is read, then the live input takes its
place, and every other address is left. -/
def Obligations.GlitchReplayTick : Prop :=
  ∀ (b : FxOps) (d : FxDraws) (s : State), LegalOperands (.tickGlitch b d) → Connected b →
    s.glitch.buf.wf = true → s.glitch.filling = false → (s.glitch.rd : Q) < s.glitch.thr →
    s.glitch.rd < 24000 →
      ∃ buf : Memory,
        exec (.tickGlitch b d) s =
          .next { s with
            glitch := { s.glitch with buf := buf, rd := s.glitch.rd + 1 }
            fxOut := s.fxOut.set 3 (blend b.inp (s.glitch.buf.read s.glitch.rd) b.wet) } ∧
        buf.wf = true ∧ ∀ a, buf.read a = if a = s.glitch.rd then b.inp else s.glitch.buf.read a

/-- R160, R163, R164: an idle tick starts a window when the draw is below the intensity, and passes the
input through either way. -/
def Obligations.GlitchIdleTick : Prop :=
  ∀ (b : FxOps) (d : FxDraws) (s : State), LegalOperands (.tickGlitch b d) → Connected b →
    s.glitch.filling = false → s.glitch.thr ≤ (s.glitch.rd : Q) →
      exec (.tickGlitch b d) s =
        .next { s with
          glitch := if d.uStart < effectIntensity b then
              { s.glitch with
                thr := d.uLen * (24000 - effectIntensity b * (9 / 10) * 24000), rd := 0 }
            else s.glitch
          fxOut := s.fxOut.set 3 b.inp }

/-- R161, R165: the fill phase over any number of connected ticks up to the capacity: the write cursor
advances by one a tick, each sample lands at the next address, the output is the input, and the phase
ends exactly when the cursor reaches 24000. -/
def Obligations.GlitchFillRun : Prop :=
  ∀ (ops : List (FxOps × FxDraws)) (s : State),
    (∀ o ∈ ops, LegalOperands (.tickGlitch o.1 o.2) ∧ Connected o.1) →
    s.glitch.buf.wf = true → s.glitch.filling = true → s.glitch.wr < 24000 →
    s.glitch.wr + ops.length ≤ 24000 →
      ∃ t : State, execAll (ops.map fun o => .tickGlitch o.1 o.2) s = .next t ∧
        t.glitch.wr = s.glitch.wr + ops.length ∧
        (t.glitch.filling = true ↔ t.glitch.wr < 24000) ∧
        t.glitch.rd = s.glitch.rd ∧ t.glitch.thr = s.glitch.thr ∧
        (∀ (n : Nat) (o : FxOps × FxDraws), ops[n]? = some o →
          t.glitch.buf.read (s.glitch.wr + n) = o.1.inp) ∧
        (∀ a, a < s.glitch.wr ∨ s.glitch.wr + ops.length ≤ a →
          t.glitch.buf.read a = s.glitch.buf.read a) ∧
        ∀ o, ops.getLast? = some o → t.fxOut[(3 : Fin 5)] = o.1.inp

/-- R162: a window of threshold `thr` replays addresses 0, 1, ... for `ceil(thr)` connected ticks: each
outputs the old content of its address and leaves its input there. -/
def Obligations.GlitchReplayRun : Prop :=
  ∀ (ops : List (FxOps × FxDraws)) (s : State),
    (∀ o ∈ ops, LegalOperands (.tickGlitch o.1 o.2) ∧ Connected o.1) →
    GlitchInv s.glitch → s.glitch.filling = false → s.glitch.rd = 0 →
    (ops.length : Int) ≤ ⌈s.glitch.thr⌉ →
      ∃ t : State, execAll (ops.map fun o => .tickGlitch o.1 o.2) s = .next t ∧
        t.glitch.rd = ops.length ∧ t.glitch.thr = s.glitch.thr ∧ t.glitch.wr = s.glitch.wr ∧
        (∀ (n : Nat) (o : FxOps × FxDraws), ops[n]? = some o →
          t.glitch.buf.read n = o.1.inp) ∧
        (∀ a, ops.length ≤ a → t.glitch.buf.read a = s.glitch.buf.read a) ∧
        (∀ o, ops.getLast? = some o →
          t.fxOut[(3 : Fin 5)] = blend o.1.inp (s.glitch.buf.read (ops.length - 1)) o.1.wet) ∧
        ((ops.length : Int) = ⌈s.glitch.thr⌉ ↔ t.glitch.thr ≤ (t.glitch.rd : Q))

/-- R170 to R173: the crop, inside a window and idle. -/
def Obligations.CropResult : Prop :=
  ∀ (b : FxOps) (d : FxDraws) (s : State), LegalOperands (.tickCrop b d) → Connected b →
    exec (.tickCrop b d) s =
      if (s.crop.cnt : Q) < s.crop.thr then
        .next { s with crop := { s.crop with cnt := s.crop.cnt + 1 },
                       fxOut := s.fxOut.set 4 (b.inp * (1 - 99 / 100 * b.wet)) }
      else
        .next { s with crop := if d.uStart < effectIntensity b * (1 / 1000) then
                          { cnt := 0, thr := d.uLen * (1 / 10) * b.sr } else s.crop,
                       fxOut := s.fxOut.set 4 b.inp }

/-- R171: a crop window of threshold `thr` lasts `ceil(thr)` connected ticks. -/
def Obligations.CropWindowRun : Prop :=
  ∀ (ops : List (FxOps × FxDraws)) (s : State),
    (∀ o ∈ ops, LegalOperands (.tickCrop o.1 o.2) ∧ Connected o.1) →
    s.crop.cnt = 0 → (ops.length : Int) ≤ ⌈s.crop.thr⌉ →
      ∃ t : State, execAll (ops.map fun o => .tickCrop o.1 o.2) s = .next t ∧
        t.crop.cnt = ops.length ∧ t.crop.thr = s.crop.thr ∧
        (∀ o, ops.getLast? = some o →
          t.fxOut[(4 : Fin 5)] = o.1.inp * (1 - 99 / 100 * o.1.wet)) ∧
        ((t.crop.cnt : Q) < t.crop.thr ↔ (ops.length : Int) < ⌈s.crop.thr⌉)

/-! ### KLOK -/

/-- R181, R185, R186: a STOPPED tick. -/
def Obligations.KlokStoppedTick : Prop :=
  ∀ (b : KlokOps) (s : State), 0 ≤ b.dt → 0 < b.sr → b.run = false →
    exec (.tickKlok b) s =
      .next { s with klok := klokAfter b.dt 0 0 0 true s.klok.pgClk.rem s.klok.pgRst.rem }

/-- R182 to R186: a RUNNING tick. -/
def Obligations.KlokRunningTick : Prop :=
  ∀ (b : KlokOps) (s : State), 0 ≤ b.dt → 0 < b.sr → b.run = true → 0 < b.bpm →
    exec (.tickKlok b) s =
      .next { s with klok := (klokAfter b.dt
        (if MasterTick b s.klok then s.klok.cnt + 1 - tickPeriod b else s.klok.cnt + 1)
        (tickPeriod b)
        (if MasterTick b s.klok then Fin.ofNat 8 (s.klok.step.val + 1) else s.klok.step)
        false
        (armed (decide (MasterTick b s.klok)) s.klok.pgClk.rem (1 / 1000))
        (armed s.klok.rstArmed s.klok.pgRst.rem (1 / 1000))) }

/-- R184, R185: with a constant integer period `P`, from a start with the counter at 0, the first master
pulse comes on RUNNING tick `P + 1` and then one every `P` ticks: the counter and the step index after
`n` ticks, and the pulse on tick `n`, which is `(n - 1) % P` ticks after the latest master tick. The pulse
output is high while less than 1 ms has passed since that tick, and, with no pulse running at the start,
then only. -/
def Obligations.MasterPulseEveryPeriod : Prop :=
  ∀ (b : KlokOps) (P n : Nat) (s : State), LegalOperands (.tickKlok b) → b.run = true → 1 ≤ P →
    tickPeriod b = (P : Q) → s.klok.cnt = 0 → s.klok.step = 0 →
      ∃ t : State, execAll (List.replicate n (.tickKlok b)) s = .next t ∧
        t.klok.cnt = ((n - P * ((n - 1) / P) : Nat) : Q) ∧
        t.klok.step.val = (n - 1) / P % 8 ∧
        (P ≤ n - 1 → (((n - 1) % P : Nat) : Q) * b.dt < 1 / 1000 → t.klok.oClk = 10) ∧
        (s.klok.pgClk.rem ≤ 0 → 1 ≤ n →
          ¬ (P ≤ n - 1 ∧ (((n - 1) % P : Nat) : Q) * b.dt < 1 / 1000) → t.klok.oClk = 0)

/-! ### SECU and the grid -/

/-- R262: `GWR` writes one cell of the grid and nothing else. -/
def Obligations.GridWriteWritesOneCell : Prop :=
  ∀ (b : GwrOps) (s : State), b.s ≤ 7 → b.c ≤ 4 →
    ∃ grid : Vector Q 40,
      exec (.gwr b) s = .next { s with secu := { s.secu with grid := grid } } ∧
      ∀ (i : Fin 8) (j : Fin 5), grid[gridAddr i j] =
        if i.val = b.s ∧ j.val = b.c then b.level else s.secu.cell i j

/-- R200 to R205: one tick of the step sequencer: every field of the unit, and nothing else of the
state. -/
def Obligations.SecuTickResult : Prop :=
  ∀ (b : SecuOps) (s : State), LegalOperands (.tickSecu b) →
    ∃ q : Secu, exec (.tickSecu b) s = .next { s with secu := q } ∧
      q.edRst = edAfter s.secu.edRst b.rstIn ∧ q.edRand = edAfter s.secu.edRand b.randIn ∧
      q.edTrig = edAfter s.secu.edTrig b.trigIn ∧ q.prevRand = b.randBtn ∧
      q.randLock = (if RandomizeGoes b s.secu then b.sr / 4
        else if 1 / 100 ≤ b.randBtn then max 0 (min (s.secu.randLock - 1) b.sr)
        else s.secu.randLock) ∧
      (∀ (i : Fin 8) (j : Fin 5), q.cell i j =
        if Randomizes b s.secu then (if b.uCell[gridAddr i j] < b.sparse then 1 else 0)
        else s.secu.cell i j) ∧
      (¬ Edge s.secu.edTrig b.trigIn → q.step = stepAfterReset b s.secu ∧ q.outStep = s.secu.outStep) ∧
      (Edge s.secu.edTrig b.trigIn →
        q.step.val = ((stepAfterReset b s.secu).val + 1) % b.nsteps ∧
        (b.uProb < clamp01 (b.prob + b.probCv) → (q.outStep.val : Int) = ⌊b.uStep * (b.nsteps : Q)⌋) ∧
        (¬ b.uProb < clamp01 (b.prob + b.probCv) → q.outStep = stepAfterReset b s.secu)) ∧
      (∀ c : Fin 5, q.oCol[c] =
        if b.outConn[c] = true ∧ 1 / 10 ≤ q.cell q.outStep c then b.trigIn else 0) ∧
      ∀ i : Fin 8, q.oLight[i] = if i = q.outStep then 1 else 0

/-- R203, S9: with `prob + prob_cv ≤ 0` the output step always equals the sequential step: after `k`
edges, each a tick at or below 0 V and then one at or above 1 V, with no reset edge and a constant
`nsteps`, the output step and the sequential index. -/
def Obligations.NoSubstitutionWithoutProbability : Prop :=
  ∀ (n : Nat) (ops : List (SecuOps × SecuOps)) (s : State),
    (∀ o ∈ ops,
      LegalOperands (.tickSecu o.1) ∧ LegalOperands (.tickSecu o.2) ∧ o.1.trigIn ≤ 0 ∧
      1 ≤ o.2.trigIn ∧ o.1.rstIn < 1 ∧ o.2.rstIn < 1 ∧ o.2.prob + o.2.probCv ≤ 0 ∧ o.2.nsteps = n) →
    ops ≠ [] → s.secu.step.val < n →
      ∃ t : State, execAll (ops.flatMap fun o => [.tickSecu o.1, .tickSecu o.2]) s = .next t ∧
        t.secu.outStep.val = (s.secu.step.val + ops.length - 1) % n ∧
        t.secu.step.val = (s.secu.step.val + ops.length) % n

/-! ### SCENER -/

/-- R224: at a step count of at least 1 the scan selects exactly one scene, the one in whose cumulative
range the count lies, the last one above the total; and it goes through the total length. -/
def Obligations.SceneScanSelects : Prop :=
  ∀ (b : ScenerOps) (n : Nat) (cur : Fin 6), 1 ≤ n → 1 ≤ b.nscenes → b.nscenes ≤ 6 →
    Selected b n (sceneScan b n cur).1 ∧
    (∀ s : Fin 6, Selected b n s → s = (sceneScan b n cur).1) ∧
    (sceneScan b n cur).2 = lengthsBefore b b.nscenes

/-- R220 to R222, R229 to R231: a tick without a trigger edge that is acted on. -/
def Obligations.ScenerTickWithoutEdge : Prop :=
  ∀ (b : ScenerOps) (s : State), LegalOperands (.tickScener b) → ¬ SceneEdge b s.scener →
    exec (.tickScener b) s =
      .next { s with scener := (scenerAfter b s.scener (curAfterReset b s.scener) s.scener.prev
        (stepsAfterReset b s.scener) s.scener.sceneSteps (rampAfter b s.scener.ramp.val)
        (finishedAfterReset b s.scener) (alertAfterStart b s.scener)) }

/-- R220 to R231: a tick with a trigger edge, `sel` being the scene the scan selects: counters, scan,
loop wrap, finish, scene change, alerts, ramp, outputs. -/
def Obligations.ScenerTickWithEdge : Prop :=
  ∀ (b : ScenerOps) (s : State) (sel : Fin 6) (n total sub : Nat) (fin : Bool),
    LegalOperands (.tickScener b) → SceneEdge b s.scener →
    n = stepsAfterReset b s.scener + 1 → total = lengthsBefore b b.nscenes → Selected b n sel →
    sub = (if sel ≠ curAfterReset b s.scener then 0 else s.scener.sceneSteps + 1) →
    fin = decide (b.loop = false ∧ total ≤ n) →
      exec (.tickScener b) s =
        .next { s with scener := (scenerAfter b s.scener sel (curAfterReset b s.scener)
          (if b.loop = true then n % total else n) sub
          (rampAfter b
            (if fin = true ∨ sel ≠ curAfterReset b s.scener then 0 else s.scener.ramp.val))
          fin
          (fun j => armed (decide (MarkerAt b sel j sub)) (alertAfterStart b s.scener j) (1 / 1000))) }

/-- R223, R226: only a reset leaves the finished state; over any ticks without one the counters and the
scenes stay. -/
def Obligations.FinishedStateIsTerminal : Prop :=
  ∀ (ops : List ScenerOps) (s : State),
    (∀ b ∈ ops, LegalOperands (.tickScener b) ∧ b.rstBtn < 1 / 100 ∧ b.rstIn < 1) →
    s.scener.finished = true →
      ∃ t : State, execAll (ops.map .tickScener) s = .next t ∧ t.scener.finished = true ∧
        t.scener.steps = s.scener.steps ∧ t.scener.sceneSteps = s.scener.sceneSteps ∧
        t.scener.cur = s.scener.cur ∧ t.scener.prev = s.scener.prev

/-- R230, S8: with the ramp in `[0,1]` and every input in `[−10,10]`, every column output is too. -/
def Obligations.SceneOutputsStayInRange : Prop :=
  ∀ (b : ScenerOps) (s t : State), InUnit s.scener.ramp.val →
    (∀ k : Fin 30, -10 ≤ b.inp[k] ∧ b.inp[k] ≤ 10) → exec (.tickScener b) s = .next t →
      ∀ c : Fin 5, -10 ≤ t.scener.oCol[c] ∧ t.scener.oCol[c] ≤ 10

/-! ### MIXBUS -/

/-- R252: the mix bus. With `N` the number of connected voices, the output times `N` is the sum of their
outputs; with none connected it is 0. That the command carries the `dt` and `sr` of R13, and completes
when R88 holds of them, is the model's choice (log 19); the result does not depend on them. -/
def Obligations.MixbusResult : Prop :=
  ∀ (b : MixOps) (s : State), 0 ≤ b.dt → 0 < b.sr → ∃ m : Q,
    exec (.tickMixbus b) s = .next { s with mixOut := m } ∧
    m * (∑ v : Fin 5, if b.conn[v] = true then (1 : Q) else 0) =
      (∑ v : Fin 5, if b.conn[v] = true then b.vout[v] else 0) ∧
    ((∀ v : Fin 5, b.conn[v] = false) → m = 0)

/-! ### State encodings and output registers -/

/-- R90: a stored edge-detector bit is 1 for HIGH and reads back as it was; the bit of a flag
(`GL.filling`, `K.rst_armed`, `C.finished`, `C.starting`) is 1 exactly when it is set; step and scene
indices fit three bits and the cursors fifteen. -/
def Obligations.StateEncodingsFit : Prop :=
  (∀ c : Ed, Ed.ofBits c.bits = c ∧ (c.state = .high ↔ c.bits = 1)) ∧
  (∀ x : Bool, (flagBit x = 1 ↔ x = true) ∧ (flagBit x = 0 ↔ x = false)) ∧
  (∀ i : Fin 8, (stepBits i).toNat = i.val) ∧ (∀ i : Fin 6, (sceneBits i).toNat = i.val) ∧
  ∀ g : Glitch, GlitchInv g →
    (∃ w, cursorBits g.wr = some w ∧ w.toNat = g.wr) ∧ ∃ w, cursorBits g.rd = some w ∧ w.toNat = g.rd

/-- R91: an output register keeps its value over every command but those of its own unit and `RESET`;
and no command at all takes or adds a clock edge of the host's (log 4, the model's choice). -/
def Obligations.OutputsHoldBetweenTicks : Prop :=
  (∀ (i : Instr) (s t : State), exec i s = .next t → t.inputs = s.inputs) ∧
  ∀ (i : Instr) (s t : State), i ≠ .reset → exec i s = .next t →
    (∀ v : Fin 5, unitOf i ≠ some (.voice v) →
      readOut t (.voiceOsc v) = readOut s (.voiceOsc v) ∧
      readOut t (.voiceAmp v) = readOut s (.voiceAmp v) ∧
      readOut t (.voiceEnv v) = readOut s (.voiceEnv v) ∧
      readOut t (.voiceEnvB v) = readOut s (.voiceEnvB v) ∧
      readOut t (.voiceGate v) = readOut s (.voiceGate v) ∧
      readOut t (.voiceLight v) = readOut s (.voiceLight v)) ∧
    (∀ e : Fin 5, unitOf i ≠ some (effectUnit e) → readOut t (.fx e) = readOut s (.fx e)) ∧
    (unitOf i ≠ some .klok → readOut t .klokClk = readOut s .klokClk ∧
      readOut t .klokRst = readOut s .klokRst ∧ readOut t .klokLight = readOut s .klokLight ∧
      ∀ k : Fin 8, readOut t (.klokDiv k) = readOut s (.klokDiv k)) ∧
    ((∀ b, i ≠ .tickSecu b) → (∀ c : Fin 5, readOut t (.secuCol c) = readOut s (.secuCol c)) ∧
      ∀ k : Fin 8, readOut t (.secuLight k) = readOut s (.secuLight k)) ∧
    (unitOf i ≠ some .scener → (∀ c : Fin 5, readOut t (.scenerCol c) = readOut s (.scenerCol c)) ∧
      (∀ j : Fin 2, readOut t (.scenerAlert j) = readOut s (.scenerAlert j)) ∧
      ∀ j : Fin 2, readOut t (.scenerAlight j) = readOut s (.scenerAlight j)) ∧
    (unitOf i ≠ some .mixbus → readOut t .mix = readOut s .mix)
end

