-- ==== Sys2Proof/Laws/Cells.lean ====
section
/-!
SUPPORT. What the shared functions and the cell operations can do, one lemma each
(spec/40_primitive_cells R100 to R109, spec/30_encoding R89).
-/

namespace Sys2Proof.Machine

open Sys2Proof.Safety

/-! ### clamp, xfade -/

theorem clamp_mem {lo hi : Q} (h : lo ≤ hi) (x : Q) : lo ≤ clamp x lo hi ∧ clamp x lo hi ≤ hi :=
  ⟨le_max_left _ _, max_le h (min_le_right _ _)⟩

theorem clamp_unit (x : Q) : InUnit (clamp x 0 1) := clamp_mem (by norm_num) x

theorem clamp_of_mem {x lo hi : Q} (h : lo ≤ x) (h' : x ≤ hi) : clamp x lo hi = x := by
  simp [clamp, h, h']

theorem clamp_of_le {x lo hi : Q} (h : x ≤ lo) (_ : lo ≤ hi) : clamp x lo hi = lo := by
  simp only [clamp]
  exact max_eq_left ((min_le_left _ _).trans h)

theorem clamp_of_ge {x lo hi : Q} (h : hi ≤ x) (h' : lo ≤ hi) : clamp x lo hi = hi := by
  simp [clamp, h, h']

theorem clamp_mono {x y lo hi : Q} (h : x ≤ y) : clamp x lo hi ≤ clamp y lo hi :=
  max_le_max le_rfl (min_le_min h le_rfl)

theorem xfade_eq (a b p : Q) : xfade a b p = a * (1 - p) + b * p := by simp only [xfade]; ring

@[simp] theorem xfade_zero (a b : Q) : xfade a b 0 = a := by simp [xfade]

@[simp] theorem xfade_one (a b : Q) : xfade a b 1 = b := by simp [xfade]

@[simp] theorem xfade_self (a p : Q) : xfade a a p = a := by simp [xfade]

/-! ### ED -/

/-- R102: everything `ED.PROC` can do. -/
theorem Ed.proc_cases (cell : Ed) (v : Q) :
    (cell.state = .high ∧ v ≤ ED_LO ∧ cell.proc v = ({ state := .low }, false)) ∨
    (cell.state = .high ∧ ED_LO < v ∧ cell.proc v = (cell, false)) ∨
    (cell.state = .low ∧ ED_HI ≤ v ∧ cell.proc v = ({ state := .high }, true)) ∨
    (cell.state = .low ∧ v < ED_HI ∧ cell.proc v = (cell, false)) := by
  rcases h : cell.state with _ | _
  · rcases le_or_gt ED_HI v with h' | h'
    · exact .inr (.inr (.inl ⟨rfl, h', by simp [Ed.proc, h, h']⟩))
    · exact .inr (.inr (.inr ⟨rfl, h', by simp [Ed.proc, h, h']⟩))
  · rcases le_or_gt v ED_LO with h' | h'
    · exact .inl ⟨rfl, h', by simp [Ed.proc, h, h']⟩
    · exact .inr (.inl ⟨rfl, h', by simp [Ed.proc, h, h']⟩)

theorem Ed.proc_edge (cell : Ed) (v : Q) :
    (cell.proc v).2 = true ↔ cell.state = .low ∧ 1 ≤ v := by
  rcases Ed.proc_cases cell v with ⟨h, h', e⟩ | ⟨h, h', e⟩ | ⟨h, h', e⟩ | ⟨h, h', e⟩ <;>
    simp_all [ED_HI]

/-! ### PG -/

/-- R103: everything `PG.TRIG` can do. -/
theorem Pg.trig_rem (cell : Pg) (d : Q) : (cell.trig d).rem = max cell.rem d := by
  simp only [Pg.trig]
  split_ifs with h
  · exact (max_eq_right h.le).symm
  · exact (max_eq_left (not_lt.mp h)).symm

/-- R104: everything `PG.PROC` can do. -/
theorem Pg.proc_cases (cell : Pg) (dt : Q) :
    (0 < cell.rem ∧ cell.proc dt = ({ rem := cell.rem - dt }, 1)) ∨
    (cell.rem ≤ 0 ∧ cell.proc dt = (cell, 0)) := by
  rcases lt_or_ge 0 cell.rem with h | h
  · exact .inl ⟨h, by simp [Pg.proc, h]⟩
  · exact .inr ⟨h, by simp [Pg.proc, not_lt.mpr h]⟩

theorem Pg.proc_level (cell : Pg) (dt : Q) : (cell.proc dt).2 = 0 ∨ (cell.proc dt).2 = 1 := by
  rcases Pg.proc_cases cell dt with ⟨_, e⟩ | ⟨_, e⟩ <;> simp [e]

/-! ### RP -/

@[simp] theorem Rp.clr_val (cell : Rp) : cell.clr.val = 0 := rfl

@[simp] theorem Rp.adv_val (cell : Rp) (rate dt : Q) :
    (cell.adv rate dt).val = clamp (cell.val + rate * dt) 0 1 := rfl

theorem Rp.adv_unit (cell : Rp) (rate dt : Q) : InUnit (cell.adv rate dt).val := clamp_unit _

/-- R106: with `rate × dt ≥ 0` a ramp in `[0,1]` does not fall. -/
theorem Rp.adv_mono {cell : Rp} {rate dt : Q} (h : InUnit cell.val) (h' : 0 ≤ rate * dt) :
    cell.val ≤ (cell.adv rate dt).val := by
  calc cell.val = clamp cell.val 0 1 := (clamp_of_mem h.1 h.2).symm
    _ ≤ _ := clamp_mono (by linarith)

/-! ### Control words -/

@[simp] theorem ctlWord_hi (hi lo : Bool) : (ctlWord hi lo).getLsbD 1 = hi := by
  cases hi <;> cases lo <;> decide

@[simp] theorem ctlWord_lo (hi lo : Bool) : (ctlWord hi lo).getLsbD 0 = lo := by
  cases hi <;> cases lo <;> decide

/-- R89: a pulse generator triggered and processed in one tick, word `11`. -/
theorem Pg.drive_trig_proc (cell : Pg) (d dt : Q) :
    cell.drive (ctlWord true true) d dt = (cell.trig d).proc dt := by simp [Pg.drive]

/-- R89: a ramp cleared and advanced in one tick, word `11`. -/
theorem Rp.drive_clr_adv (cell : Rp) (rate dt : Q) :
    cell.drive (ctlWord true true) rate dt = cell.clr.adv rate dt := by simp [Rp.drive]

/-! ### ENV, LOCKOUT, QUANTITY -/

theorem env_unit (r : Q) (k : Nat) : InUnit (env r k) := clamp_unit _

theorem quantity_unit (param : Q) (cvConn : Bool) (cv att : Q) :
    InUnit (quantity param cvConn cv att) := by
  simp only [quantity]
  split_ifs <;> exact clamp_unit _

/-- R108: everything `LOCKOUT` can do. -/
theorem lockout_cases (fire : Bool) (prev lock sr : Q) :
    (fire = true ∧ (prev = 0 ∨ lock ≤ 0) ∧ lockout fire prev lock sr = (true, sr / 4)) ∨
    (fire = true ∧ prev ≠ 0 ∧ 0 < lock ∧
      lockout fire prev lock sr = (false, clamp (lock - 1) 0 sr)) ∨
    (fire = false ∧ lockout fire prev lock sr = (false, lock)) := by
  cases fire
  · exact .inr (.inr ⟨rfl, rfl⟩)
  · by_cases h : prev = 0 ∨ lock ≤ 0
    · exact .inl ⟨rfl, h, by simp [lockout, h, LOCK_DIV]⟩
    · refine .inr (.inl ⟨rfl, fun e => h (.inl e), not_le.mp fun e => h (.inr e), ?_⟩)
      simp [lockout, h]

theorem lockout_nonneg {lock sr : Q} (fire : Bool) (prev : Q) (h : 0 ≤ lock) (h' : 0 ≤ sr) :
    0 ≤ (lockout fire prev lock sr).2 := by
  rcases lockout_cases fire prev lock sr with ⟨_, _, e⟩ | ⟨_, _, _, e⟩ | ⟨_, e⟩ <;> rw [e]
  · positivity
  · exact (clamp_mem h' _).1
  · exact h

end Sys2Proof.Machine
end

