-- ==== Sys2Proof/Laws/Memory.lean ====
section
/-!
SUPPORT. The glitch sample memory: what a read sees after a write, and that every operation keeps the
canonical form (spec/20_memory R60, R66, log 9).
-/

namespace Sys2Proof.Machine

@[simp] theorem Memory.wf_nil : Memory.wf [] = true := rfl

/-- The canonical form, said of the first listed element and the rest. -/
theorem Memory.wf_cons (a : Nat) (v : Q) (m : Memory) :
    Memory.wf ((a, v) :: m) = true ↔
      v ≠ unwritten ∧ a < CAP ∧ Memory.wf m = true ∧ ∀ c ∈ m, a < c.1 := by
  induction m generalizing a v with
  | nil => simp [Memory.wf]
  | cons d m ih =>
    obtain ⟨b, w⟩ := d
    have hb := ih b w
    constructor
    · intro h
      simp only [Memory.wf, Bool.and_eq_true, decide_eq_true_eq] at h
      obtain ⟨⟨hv, hab⟩, hm⟩ := h
      obtain ⟨_, hbc, _, hlt⟩ := hb.mp hm
      refine ⟨hv, hab.trans hbc, hm, ?_⟩
      intro c hc
      rcases List.mem_cons.mp hc with rfl | hc
      · exact hab
      · exact hab.trans (hlt c hc)
    · rintro ⟨hv, _, hm, hlt⟩
      simp only [Memory.wf, Bool.and_eq_true, decide_eq_true_eq]
      exact ⟨⟨hv, hlt (b, w) (by simp)⟩, hm⟩

/-- An address below every listed one reads as unwritten. -/
theorem Memory.read_of_lt {m : Memory} {a : Nat} (h : ∀ c ∈ m, a < c.1) :
    Memory.read m a = unwritten := by
  induction m with
  | nil => rfl
  | cons d m ih =>
    obtain ⟨b, w⟩ := d
    have hb : a < b := h (b, w) (by simp)
    rw [Memory.read, if_neg (by omega)]
    exact ih fun c hc => h c (by simp [hc])

theorem Memory.read_cons (a : Nat) (v : Q) (m : Memory) (h : ∀ c ∈ m, a < c.1) (i : Nat) :
    Memory.read (Memory.cons a v m) i = if i = a then v else Memory.read m i := by
  rw [Memory.cons]
  split_ifs with hv hi hi
  · rw [hi, Memory.read_of_lt h, hv]
  · rfl
  · simp [Memory.read, hi]
  · rw [Memory.read, if_neg (fun e => hi e.symm)]

/-- What a read sees after a write: the value written at that address, the old one elsewhere. -/
theorem Memory.read_write {m : Memory} (h : Memory.wf m = true) (a : Nat) (v : Q) (i : Nat) :
    Memory.read (Memory.write m a v) i = if i = a then v else Memory.read m i := by
  induction m with
  | nil => rw [Memory.write, Memory.read_cons _ _ _ (by simp)]
  | cons d m ih =>
    obtain ⟨b, x⟩ := d
    obtain ⟨_, _, hm, hlt⟩ := (Memory.wf_cons b x m).mp h
    rcases lt_trichotomy a b with h1 | rfl | h1
    · rw [Memory.write, if_pos h1]
      refine Memory.read_cons _ _ _ ?_ _
      intro c hc
      rcases List.mem_cons.mp hc with rfl | hc
      · exact h1
      · exact h1.trans (hlt c hc)
    · rw [Memory.write, if_neg (lt_irrefl _), if_pos rfl, Memory.read_cons _ _ _ hlt, Memory.read]
      split_ifs with h3 h4 <;> first | rfl | (exfalso; omega)
    · rw [Memory.write, if_neg (by omega), if_neg (by omega), Memory.read, Memory.read, ih hm]
      split_ifs with h3 h4 h4 <;> first | rfl | (exfalso; omega)

theorem Memory.mem_cons_addr {a : Nat} {v : Q} {m : Memory} {c : Nat × Q}
    (h : c ∈ Memory.cons a v m) : c.1 = a ∨ c ∈ m := by
  rw [Memory.cons] at h
  split_ifs at h
  · exact .inr h
  · rcases List.mem_cons.mp h with rfl | h
    · exact .inl rfl
    · exact .inr h

/-- A write lists no address but the one written and those listed before. -/
theorem Memory.mem_write {m : Memory} {a : Nat} {v : Q} {c : Nat × Q}
    (h : c ∈ Memory.write m a v) : c.1 = a ∨ c ∈ m := by
  induction m with
  | nil => exact Memory.mem_cons_addr h
  | cons d m ih =>
    obtain ⟨b, x⟩ := d
    rw [Memory.write] at h
    split_ifs at h
    · exact Memory.mem_cons_addr h
    · exact (Memory.mem_cons_addr h).imp id fun h => by simp [h]
    · rcases List.mem_cons.mp h with rfl | h
      · exact .inr (by simp)
      · exact (ih h).imp id fun h => by simp [h]

theorem Memory.wf_consOp {a : Nat} {v : Q} {m : Memory} (hm : Memory.wf m = true) (ha : a < CAP)
    (h : ∀ c ∈ m, a < c.1) : Memory.wf (Memory.cons a v m) = true := by
  rw [Memory.cons]
  split_ifs with hv
  · exact hm
  · exact (Memory.wf_cons a v m).mpr ⟨hv, ha, hm, h⟩

/-- A write at an element of the buffer keeps the canonical form. -/
theorem Memory.wf_write {m : Memory} (h : Memory.wf m = true) {a : Nat} (ha : a < CAP) (v : Q) :
    Memory.wf (Memory.write m a v) = true := by
  induction m with
  | nil => exact Memory.wf_consOp h ha (by simp)
  | cons d m ih =>
    obtain ⟨b, x⟩ := d
    obtain ⟨hx, hb, hm, hlt⟩ := (Memory.wf_cons b x m).mp h
    rw [Memory.write]
    split_ifs with h1 h2
    · refine Memory.wf_consOp h ha ?_
      intro c hc
      rcases List.mem_cons.mp hc with rfl | hc
      · exact h1
      · exact h1.trans (hlt c hc)
    · subst h2
      exact Memory.wf_consOp hm ha hlt
    · refine (Memory.wf_cons b x _).mpr ⟨hx, hb, ih hm, ?_⟩
      intro c hc
      rcases Memory.mem_write hc with h3 | h3
      · omega
      · exact hlt c h3

/-- Every memory operation keeps the canonical form: a successful `MemWrite`. -/
theorem memWrite_wf {m n : Memory} {a : Nat} {v : Q} (h : Memory.wf m = true)
    (e : memWrite m a v = .ok n) : Memory.wf n = true := by
  simp only [memWrite] at e
  split_ifs at e with ha
  cases e
  exact Memory.wf_write h ha v

/-- R11: everything `MemWrite` can do. -/
theorem memWrite_cases (m : Memory) (a : Nat) (v : Q) :
    (a < CAP ∧ memWrite m a v = .ok (m.write a v)) ∨
    (CAP ≤ a ∧ memWrite m a v = .error (.noSuchElement a)) := by
  rcases lt_or_ge a CAP with h | h
  · exact .inl ⟨h, by simp [memWrite, h]⟩
  · exact .inr ⟨h, by simp [memWrite, not_lt.mpr h]⟩

/-- R11: everything `MemRead` can do. -/
theorem memRead_cases (m : Memory) (a : Nat) :
    (a < CAP ∧ memRead m a = .ok (m.read a)) ∨
    (CAP ≤ a ∧ memRead m a = .error (.noSuchElement a)) := by
  rcases lt_or_ge a CAP with h | h
  · exact .inl ⟨h, by simp [memRead, h]⟩
  · exact .inr ⟨h, by simp [memRead, not_lt.mpr h]⟩

/-- The canonical form of a memory after reset. -/
theorem reset_memory_wf : Memory.wf State.reset.glitch.buf = true := rfl

end Sys2Proof.Machine
end

