-- ==== Sys2Proof/Laws/PerInstr.lean ====
section
/-!
SUPPORT. Statements for all commands, made per command. The family `LegalForm`: the check `wellFormed`
accepts a command exactly when its operands meet the preconditions of spec/30_encoding R88 as
`Safety.LegalOperands` spells them.
-/

namespace Sys2Proof.Machine

open Sys2Proof.Safety

theorem rateProblem_none (dt sr : Q) : rateProblem dt sr = none ↔ LegalRate dt sr := by
  simp only [rateProblem, LegalRate]
  rcases lt_or_ge dt 0 with h | h
  · simp [h, not_le.mpr h]
  · rcases le_or_gt sr 0 with h' | h'
    · simp [h, not_lt.mpr h, h', not_lt.mpr h']
    · simp [h, not_lt.mpr h, h', not_le.mpr h']

theorem isDraw_iff (u : Q) : isDraw u = true ↔ InDrawRange u := by simp [isDraw, InDrawRange]

theorem drawsProblem_none (us : List Q) : drawsProblem us = none ↔ ∀ u ∈ us, InDrawRange u := by
  simp only [drawsProblem]
  split_ifs with h
  · simpa [isDraw_iff] using h
  · simpa [isDraw_iff] using h

theorem voiceProblem_none (b : VoiceOps) :
    voiceProblem b = none ↔ LegalRate b.dt b.sr ∧ b.lengthParam < 7 := by
  simp [voiceProblem, Option.or_eq_none_iff, rateProblem_none]

theorem fxDrawProblem_none (b : FxOps) (d : FxDraws) :
    fxDrawProblem b d = none ↔
      LegalRate b.dt b.sr ∧ InDrawRange d.uStart ∧ InDrawRange d.uLen := by
  simp [fxDrawProblem, fxProblem, Option.or_eq_none_iff, rateProblem_none, drawsProblem_none]

theorem klokProblem_none (b : KlokOps) :
    klokProblem b = none ↔ LegalRate b.dt b.sr ∧ (b.run = true → 0 < b.bpm) := by
  simp [klokProblem, Option.or_eq_none_iff, rateProblem_none]

theorem vector_forall_mem {α : Type} {n : Nat} (v : Vector α n) (p : α → Prop) :
    (∀ x ∈ v.toList, p x) ↔ ∀ i : Fin n, p v[i] := by
  constructor
  · intro h i
    exact h _ (by simp [Vector.mem_toList_iff])
  · intro h x hx
    obtain ⟨i, hi, rfl⟩ := Vector.getElem_of_mem (Vector.mem_toList_iff.mp hx)
    exact h ⟨i, hi⟩

theorem secuProblem_none (b : SecuOps) :
    secuProblem b = none ↔
      LegalRate b.dt b.sr ∧ 1 ≤ b.nsteps ∧ b.nsteps ≤ 8 ∧
        InDrawRange b.uProb ∧ InDrawRange b.uStep ∧ ∀ a : Fin 40, InDrawRange b.uCell[a] := by
  simp only [secuProblem, Option.or_eq_none_iff, rateProblem_none, drawsProblem_none,
    List.forall_mem_cons, vector_forall_mem]
  constructor
  · rintro ⟨⟨h, h'⟩, h''⟩
    split_ifs at h' with hn
    exact ⟨h, hn.1, hn.2, h''⟩
  · rintro ⟨h, h1, h2, h''⟩
    exact ⟨⟨h, by simp [h1, h2]⟩, h''⟩

/-- R88: the scene total is at least 1 exactly when an active scene has a length. -/
theorem sceneTotal_pos (b : ScenerOps) (h : b.nscenes ≤ 6) :
    1 ≤ sceneTotal b ↔ ∃ s : Fin 6, s.val < b.nscenes ∧ 1 ≤ b.len[s] := by
  have key : ∀ l : List Nat, 1 ≤ l.sum ↔ ∃ x ∈ l, 1 ≤ x := by
    intro l
    induction l with
    | nil => simp
    | cons a l ih => rw [List.sum_cons]; simp only [List.mem_cons, exists_eq_or_imp, ← ih]; omega
  have mem : ∀ n : Fin 7, ∀ s : Fin 6, s ∈ activeScenes n.val ↔ s.val < n.val := by decide
  rw [sceneTotal, key]
  constructor
  · rintro ⟨x, hx, h1⟩
    obtain ⟨s, hs, rfl⟩ := List.mem_map.mp hx
    exact ⟨s, (mem ⟨b.nscenes, by omega⟩ s).mp hs, h1⟩
  · rintro ⟨s, hs, h1⟩
    exact ⟨_, List.mem_map.mpr ⟨s, (mem ⟨b.nscenes, by omega⟩ s).mpr hs, rfl⟩, h1⟩

theorem scenerProblem_none (b : ScenerOps) :
    scenerProblem b = none ↔
      LegalRate b.dt b.sr ∧ 1 ≤ b.nscenes ∧ b.nscenes ≤ 6 ∧
        ∃ s : Fin 6, s.val < b.nscenes ∧ 1 ≤ b.len[s] := by
  simp only [scenerProblem, Option.or_eq_none_iff, rateProblem_none]
  constructor
  · rintro ⟨⟨h, h'⟩, h''⟩
    split_ifs at h' h'' with hn ht
    exact ⟨h, hn.1, hn.2, (sceneTotal_pos b hn.2).mp ht⟩
  · rintro ⟨h, h1, h2, h3⟩
    have ht := (sceneTotal_pos b h2).mpr h3
    simp [h, h1, h2, ht]

end Sys2Proof.Machine

namespace Sys2Proof.Laws.LegalForm

open Sys2Proof.Safety

/-- R88: `wellFormed` is the spec's list of preconditions. -/
def Statement (i : Instr) : Prop := i.wellFormed = true ↔ LegalOperands i

theorem of_problem {i : Instr} (h : i.problem = none ↔ LegalOperands i) : Statement i := by
  simpa [Statement, Instr.wellFormed] using h

theorem nop : Statement .nop := of_problem (by simp [Instr.problem, LegalOperands])
theorem reset : Statement .reset := of_problem (by simp [Instr.problem, LegalOperands])
theorem gwr (b : GwrOps) : Statement (.gwr b) :=
  of_problem (by simp [Instr.problem, LegalOperands, Machine.gwrProblem])
theorem tickVoice0 (b : VoiceOps) : Statement (.tickVoice0 b) :=
  of_problem (Machine.voiceProblem_none b)
theorem tickVoice1 (b : VoiceOps) : Statement (.tickVoice1 b) :=
  of_problem (Machine.voiceProblem_none b)
theorem tickVoice2 (b : VoiceOps) : Statement (.tickVoice2 b) :=
  of_problem (Machine.voiceProblem_none b)
theorem tickVoice3 (b : VoiceOps) : Statement (.tickVoice3 b) :=
  of_problem (Machine.voiceProblem_none b)
theorem tickVoice4 (b : VoiceOps) : Statement (.tickVoice4 b) :=
  of_problem (Machine.voiceProblem_none b)
theorem tickBitcrush (b : FxOps) : Statement (.tickBitcrush b) :=
  of_problem (Machine.rateProblem_none b.dt b.sr)
theorem tickDecimate (b : FxOps) : Statement (.tickDecimate b) :=
  of_problem (Machine.rateProblem_none b.dt b.sr)
theorem tickDistort (b : FxOps) : Statement (.tickDistort b) :=
  of_problem (Machine.rateProblem_none b.dt b.sr)
theorem tickGlitch (b : FxOps) (d : FxDraws) : Statement (.tickGlitch b d) :=
  of_problem (Machine.fxDrawProblem_none b d)
theorem tickCrop (b : FxOps) (d : FxDraws) : Statement (.tickCrop b d) :=
  of_problem (Machine.fxDrawProblem_none b d)
theorem tickKlok (b : KlokOps) : Statement (.tickKlok b) :=
  of_problem (Machine.klokProblem_none b)
theorem tickSecu (b : SecuOps) : Statement (.tickSecu b) :=
  of_problem (Machine.secuProblem_none b)
theorem tickScener (b : ScenerOps) : Statement (.tickScener b) :=
  of_problem (Machine.scenerProblem_none b)
theorem tickMixbus (b : MixOps) : Statement (.tickMixbus b) :=
  of_problem (Machine.rateProblem_none b.dt b.sr)

end Sys2Proof.Laws.LegalForm
end

