-- ==== Sys2Proof/Laws/State.lean ====
section
/-!
SUPPORT. The fields of the state after each update of Machine/Ops.lean, one lemma per field per update,
and the elements of the two output files an update of one of them leaves.
-/

namespace Sys2Proof.Machine

@[simp] theorem State.setInputs_inputs (s : State) (es : List ClockEdge) :
    (s.setInputs es).inputs = es := rfl
@[simp] theorem State.setInputs_voice (s : State) (es : List ClockEdge) :
    (s.setInputs es).voice = s.voice := rfl
@[simp] theorem State.setInputs_fxOut (s : State) (es : List ClockEdge) :
    (s.setInputs es).fxOut = s.fxOut := rfl
@[simp] theorem State.setInputs_glitch (s : State) (es : List ClockEdge) :
    (s.setInputs es).glitch = s.glitch := rfl
@[simp] theorem State.setInputs_crop (s : State) (es : List ClockEdge) :
    (s.setInputs es).crop = s.crop := rfl
@[simp] theorem State.setInputs_decim (s : State) (es : List ClockEdge) :
    (s.setInputs es).decim = s.decim := rfl
@[simp] theorem State.setInputs_klok (s : State) (es : List ClockEdge) :
    (s.setInputs es).klok = s.klok := rfl
@[simp] theorem State.setInputs_secu (s : State) (es : List ClockEdge) :
    (s.setInputs es).secu = s.secu := rfl
@[simp] theorem State.setInputs_scener (s : State) (es : List ClockEdge) :
    (s.setInputs es).scener = s.scener := rfl
@[simp] theorem State.setInputs_mixOut (s : State) (es : List ClockEdge) :
    (s.setInputs es).mixOut = s.mixOut := rfl

@[simp] theorem State.setVoice_inputs (s : State) (v : Fin 5) (x : Voice) :
    (s.setVoice v x).inputs = s.inputs := rfl
@[simp] theorem State.setVoice_voice (s : State) (v : Fin 5) (x : Voice) :
    (s.setVoice v x).voice = s.voice.set v x := rfl
@[simp] theorem State.setVoice_fxOut (s : State) (v : Fin 5) (x : Voice) :
    (s.setVoice v x).fxOut = s.fxOut := rfl
@[simp] theorem State.setVoice_glitch (s : State) (v : Fin 5) (x : Voice) :
    (s.setVoice v x).glitch = s.glitch := rfl
@[simp] theorem State.setVoice_crop (s : State) (v : Fin 5) (x : Voice) :
    (s.setVoice v x).crop = s.crop := rfl
@[simp] theorem State.setVoice_decim (s : State) (v : Fin 5) (x : Voice) :
    (s.setVoice v x).decim = s.decim := rfl
@[simp] theorem State.setVoice_klok (s : State) (v : Fin 5) (x : Voice) :
    (s.setVoice v x).klok = s.klok := rfl
@[simp] theorem State.setVoice_secu (s : State) (v : Fin 5) (x : Voice) :
    (s.setVoice v x).secu = s.secu := rfl
@[simp] theorem State.setVoice_scener (s : State) (v : Fin 5) (x : Voice) :
    (s.setVoice v x).scener = s.scener := rfl
@[simp] theorem State.setVoice_mixOut (s : State) (v : Fin 5) (x : Voice) :
    (s.setVoice v x).mixOut = s.mixOut := rfl

@[simp] theorem State.setFxOut_inputs (s : State) (e : Fin 5) (x : Q) :
    (s.setFxOut e x).inputs = s.inputs := rfl
@[simp] theorem State.setFxOut_voice (s : State) (e : Fin 5) (x : Q) :
    (s.setFxOut e x).voice = s.voice := rfl
@[simp] theorem State.setFxOut_fxOut (s : State) (e : Fin 5) (x : Q) :
    (s.setFxOut e x).fxOut = s.fxOut.set e x := rfl
@[simp] theorem State.setFxOut_glitch (s : State) (e : Fin 5) (x : Q) :
    (s.setFxOut e x).glitch = s.glitch := rfl
@[simp] theorem State.setFxOut_crop (s : State) (e : Fin 5) (x : Q) :
    (s.setFxOut e x).crop = s.crop := rfl
@[simp] theorem State.setFxOut_decim (s : State) (e : Fin 5) (x : Q) :
    (s.setFxOut e x).decim = s.decim := rfl
@[simp] theorem State.setFxOut_klok (s : State) (e : Fin 5) (x : Q) :
    (s.setFxOut e x).klok = s.klok := rfl
@[simp] theorem State.setFxOut_secu (s : State) (e : Fin 5) (x : Q) :
    (s.setFxOut e x).secu = s.secu := rfl
@[simp] theorem State.setFxOut_scener (s : State) (e : Fin 5) (x : Q) :
    (s.setFxOut e x).scener = s.scener := rfl
@[simp] theorem State.setFxOut_mixOut (s : State) (e : Fin 5) (x : Q) :
    (s.setFxOut e x).mixOut = s.mixOut := rfl

@[simp] theorem State.setGlitch_inputs (s : State) (g : Glitch) :
    (s.setGlitch g).inputs = s.inputs := rfl
@[simp] theorem State.setGlitch_voice (s : State) (g : Glitch) :
    (s.setGlitch g).voice = s.voice := rfl
@[simp] theorem State.setGlitch_fxOut (s : State) (g : Glitch) :
    (s.setGlitch g).fxOut = s.fxOut := rfl
@[simp] theorem State.setGlitch_glitch (s : State) (g : Glitch) :
    (s.setGlitch g).glitch = g := rfl
@[simp] theorem State.setGlitch_crop (s : State) (g : Glitch) :
    (s.setGlitch g).crop = s.crop := rfl
@[simp] theorem State.setGlitch_decim (s : State) (g : Glitch) :
    (s.setGlitch g).decim = s.decim := rfl
@[simp] theorem State.setGlitch_klok (s : State) (g : Glitch) :
    (s.setGlitch g).klok = s.klok := rfl
@[simp] theorem State.setGlitch_secu (s : State) (g : Glitch) :
    (s.setGlitch g).secu = s.secu := rfl
@[simp] theorem State.setGlitch_scener (s : State) (g : Glitch) :
    (s.setGlitch g).scener = s.scener := rfl
@[simp] theorem State.setGlitch_mixOut (s : State) (g : Glitch) :
    (s.setGlitch g).mixOut = s.mixOut := rfl

@[simp] theorem State.setCrop_inputs (s : State) (c : Crop) :
    (s.setCrop c).inputs = s.inputs := rfl
@[simp] theorem State.setCrop_voice (s : State) (c : Crop) :
    (s.setCrop c).voice = s.voice := rfl
@[simp] theorem State.setCrop_fxOut (s : State) (c : Crop) :
    (s.setCrop c).fxOut = s.fxOut := rfl
@[simp] theorem State.setCrop_glitch (s : State) (c : Crop) :
    (s.setCrop c).glitch = s.glitch := rfl
@[simp] theorem State.setCrop_crop (s : State) (c : Crop) :
    (s.setCrop c).crop = c := rfl
@[simp] theorem State.setCrop_decim (s : State) (c : Crop) :
    (s.setCrop c).decim = s.decim := rfl
@[simp] theorem State.setCrop_klok (s : State) (c : Crop) :
    (s.setCrop c).klok = s.klok := rfl
@[simp] theorem State.setCrop_secu (s : State) (c : Crop) :
    (s.setCrop c).secu = s.secu := rfl
@[simp] theorem State.setCrop_scener (s : State) (c : Crop) :
    (s.setCrop c).scener = s.scener := rfl
@[simp] theorem State.setCrop_mixOut (s : State) (c : Crop) :
    (s.setCrop c).mixOut = s.mixOut := rfl

@[simp] theorem State.setDecim_inputs (s : State) (d : Decim) :
    (s.setDecim d).inputs = s.inputs := rfl
@[simp] theorem State.setDecim_voice (s : State) (d : Decim) :
    (s.setDecim d).voice = s.voice := rfl
@[simp] theorem State.setDecim_fxOut (s : State) (d : Decim) :
    (s.setDecim d).fxOut = s.fxOut := rfl
@[simp] theorem State.setDecim_glitch (s : State) (d : Decim) :
    (s.setDecim d).glitch = s.glitch := rfl
@[simp] theorem State.setDecim_crop (s : State) (d : Decim) :
    (s.setDecim d).crop = s.crop := rfl
@[simp] theorem State.setDecim_decim (s : State) (d : Decim) :
    (s.setDecim d).decim = d := rfl
@[simp] theorem State.setDecim_klok (s : State) (d : Decim) :
    (s.setDecim d).klok = s.klok := rfl
@[simp] theorem State.setDecim_secu (s : State) (d : Decim) :
    (s.setDecim d).secu = s.secu := rfl
@[simp] theorem State.setDecim_scener (s : State) (d : Decim) :
    (s.setDecim d).scener = s.scener := rfl
@[simp] theorem State.setDecim_mixOut (s : State) (d : Decim) :
    (s.setDecim d).mixOut = s.mixOut := rfl

@[simp] theorem State.setKlok_inputs (s : State) (k : Klok) :
    (s.setKlok k).inputs = s.inputs := rfl
@[simp] theorem State.setKlok_voice (s : State) (k : Klok) :
    (s.setKlok k).voice = s.voice := rfl
@[simp] theorem State.setKlok_fxOut (s : State) (k : Klok) :
    (s.setKlok k).fxOut = s.fxOut := rfl
@[simp] theorem State.setKlok_glitch (s : State) (k : Klok) :
    (s.setKlok k).glitch = s.glitch := rfl
@[simp] theorem State.setKlok_crop (s : State) (k : Klok) :
    (s.setKlok k).crop = s.crop := rfl
@[simp] theorem State.setKlok_decim (s : State) (k : Klok) :
    (s.setKlok k).decim = s.decim := rfl
@[simp] theorem State.setKlok_klok (s : State) (k : Klok) :
    (s.setKlok k).klok = k := rfl
@[simp] theorem State.setKlok_secu (s : State) (k : Klok) :
    (s.setKlok k).secu = s.secu := rfl
@[simp] theorem State.setKlok_scener (s : State) (k : Klok) :
    (s.setKlok k).scener = s.scener := rfl
@[simp] theorem State.setKlok_mixOut (s : State) (k : Klok) :
    (s.setKlok k).mixOut = s.mixOut := rfl

@[simp] theorem State.setSecu_inputs (s : State) (q : Secu) :
    (s.setSecu q).inputs = s.inputs := rfl
@[simp] theorem State.setSecu_voice (s : State) (q : Secu) :
    (s.setSecu q).voice = s.voice := rfl
@[simp] theorem State.setSecu_fxOut (s : State) (q : Secu) :
    (s.setSecu q).fxOut = s.fxOut := rfl
@[simp] theorem State.setSecu_glitch (s : State) (q : Secu) :
    (s.setSecu q).glitch = s.glitch := rfl
@[simp] theorem State.setSecu_crop (s : State) (q : Secu) :
    (s.setSecu q).crop = s.crop := rfl
@[simp] theorem State.setSecu_decim (s : State) (q : Secu) :
    (s.setSecu q).decim = s.decim := rfl
@[simp] theorem State.setSecu_klok (s : State) (q : Secu) :
    (s.setSecu q).klok = s.klok := rfl
@[simp] theorem State.setSecu_secu (s : State) (q : Secu) :
    (s.setSecu q).secu = q := rfl
@[simp] theorem State.setSecu_scener (s : State) (q : Secu) :
    (s.setSecu q).scener = s.scener := rfl
@[simp] theorem State.setSecu_mixOut (s : State) (q : Secu) :
    (s.setSecu q).mixOut = s.mixOut := rfl

@[simp] theorem State.setScener_inputs (s : State) (c : Scener) :
    (s.setScener c).inputs = s.inputs := rfl
@[simp] theorem State.setScener_voice (s : State) (c : Scener) :
    (s.setScener c).voice = s.voice := rfl
@[simp] theorem State.setScener_fxOut (s : State) (c : Scener) :
    (s.setScener c).fxOut = s.fxOut := rfl
@[simp] theorem State.setScener_glitch (s : State) (c : Scener) :
    (s.setScener c).glitch = s.glitch := rfl
@[simp] theorem State.setScener_crop (s : State) (c : Scener) :
    (s.setScener c).crop = s.crop := rfl
@[simp] theorem State.setScener_decim (s : State) (c : Scener) :
    (s.setScener c).decim = s.decim := rfl
@[simp] theorem State.setScener_klok (s : State) (c : Scener) :
    (s.setScener c).klok = s.klok := rfl
@[simp] theorem State.setScener_secu (s : State) (c : Scener) :
    (s.setScener c).secu = s.secu := rfl
@[simp] theorem State.setScener_scener (s : State) (c : Scener) :
    (s.setScener c).scener = c := rfl
@[simp] theorem State.setScener_mixOut (s : State) (c : Scener) :
    (s.setScener c).mixOut = s.mixOut := rfl

@[simp] theorem State.setMix_inputs (s : State) (x : Q) :
    (s.setMix x).inputs = s.inputs := rfl
@[simp] theorem State.setMix_voice (s : State) (x : Q) :
    (s.setMix x).voice = s.voice := rfl
@[simp] theorem State.setMix_fxOut (s : State) (x : Q) :
    (s.setMix x).fxOut = s.fxOut := rfl
@[simp] theorem State.setMix_glitch (s : State) (x : Q) :
    (s.setMix x).glitch = s.glitch := rfl
@[simp] theorem State.setMix_crop (s : State) (x : Q) :
    (s.setMix x).crop = s.crop := rfl
@[simp] theorem State.setMix_decim (s : State) (x : Q) :
    (s.setMix x).decim = s.decim := rfl
@[simp] theorem State.setMix_klok (s : State) (x : Q) :
    (s.setMix x).klok = s.klok := rfl
@[simp] theorem State.setMix_secu (s : State) (x : Q) :
    (s.setMix x).secu = s.secu := rfl
@[simp] theorem State.setMix_scener (s : State) (x : Q) :
    (s.setMix x).scener = s.scener := rfl
@[simp] theorem State.setMix_mixOut (s : State) (x : Q) :
    (s.setMix x).mixOut = x := rfl

theorem State.setVoice_get (s : State) (v w : Fin 5) (x : Voice) :
    (s.setVoice v x).voice[w] = if w = v then x else s.voice[w] := by
  simp only [State.setVoice_voice, Fin.getElem_fin, Vector.getElem_set]
  split_ifs with h h' h' <;> first | rfl | (exfalso; omega)

theorem State.setFxOut_get (s : State) (e i : Fin 5) (x : Q) :
    (s.setFxOut e x).fxOut[i] = if i = e then x else s.fxOut[i] := by
  simp only [State.setFxOut_fxOut, Fin.getElem_fin, Vector.getElem_set]
  split_ifs with h h' h' <;> first | rfl | (exfalso; omega)

theorem resetBlock_eq (s : State) : resetBlock s = { State.reset with inputs := s.inputs } := rfl

theorem nextEdge_cons (s : State) (e : ClockEdge) (es : List ClockEdge) (h : s.inputs = e :: es) :
    nextEdge s = (e, s.setInputs es) := by simp [nextEdge, h]

theorem nextEdge_nil (s : State) (h : s.inputs = []) : nextEdge s = (({ } : ClockEdge), s) := by
  simp [nextEdge, h]

end Sys2Proof.Machine
end

