-- ==== Sys2Proof/Laws/Exec.lean ====
section
/-!
SUPPORT. What a command and a step can do, one lemma per shared operation: the legality guard, the
effect wrapper, the glitch effect, the commands of a voice, and the step over a clock edge.
-/

namespace Sys2Proof.Machine

open Sys2Proof.Safety

/-- R88: what the legality guard answers. -/
theorem withLegal_next {p : Option OperandProblem} {run : StepOutcome} {t : State} :
    withLegal p run = .next t ↔ p = none ∧ run = .next t := by
  cases p <;> simp [withLegal]

theorem withLegal_refused {p : Option OperandProblem} {run : StepOutcome} (h : p ≠ none) :
    ∃ q, withLegal p run = .refused (.illegalOperand q) := by
  cases p with
  | none => exact absurd rfl h
  | some q => exact ⟨q, rfl⟩

@[simp] theorem withLegal_none (run : StepOutcome) : withLegal none run = run := rfl

/-- R140, R141: everything the effect wrapper can do. -/
theorem fxWrapper_cases (e : Fin 5) (b : FxOps) (effect : Q → Except Fault (State × Q)) (s : State) :
    ((b.inConn = false ∨ b.outConn = false) ∧ fxWrapper e b effect s = .next s) ∨
    (b.inConn = true ∧ b.outConn = true ∧
      ((∃ f, effect (intensity b) = .error f ∧ fxWrapper e b effect s = .fault f) ∨
       (∃ t fx, effect (intensity b) = .ok (t, fx) ∧
          fxWrapper e b effect s = .next (t.setFxOut e (xfade b.inp fx b.wet))))) := by
  rcases hc : b.inConn && b.outConn with _ | _
  · refine .inl ⟨(Bool.and_eq_false_iff ..).mp hc, by simp [fxWrapper, hc]⟩
  · obtain ⟨hi, ho⟩ := Bool.and_eq_true_iff.mp hc
    refine .inr ⟨hi, ho, ?_⟩
    rcases h : effect (intensity b) with f | ⟨t, fx⟩
    · exact .inl ⟨f, rfl, by simp [fxWrapper, hc, h]⟩
    · exact .inr ⟨t, fx, rfl, by simp [fxWrapper, hc, h]⟩

/-- R160 to R163: everything the glitch effect can do. -/
theorem glitchEffect_cases (inp q : Q) (d : FxDraws) (g : Glitch) :
    (g.filling = true ∧ g.wr < CAP ∧
      glitchEffect inp q d g =
        .ok ({ g with buf := g.buf.write g.wr inp, wr := g.wr + 1,
                      filling := if g.wr + 1 = CAP then false else true }, inp)) ∨
    (g.filling = true ∧ CAP ≤ g.wr ∧ glitchEffect inp q d g = .error (.noSuchElement g.wr)) ∨
    (g.filling = false ∧ (g.rd : Q) < g.thr ∧ g.rd < CAP ∧
      glitchEffect inp q d g =
        .ok ({ g with buf := g.buf.write g.rd inp, rd := g.rd + 1 }, g.buf.read g.rd)) ∨
    (g.filling = false ∧ (g.rd : Q) < g.thr ∧ CAP ≤ g.rd ∧
      glitchEffect inp q d g = .error (.noSuchElement g.rd)) ∨
    (g.filling = false ∧ g.thr ≤ (g.rd : Q) ∧ d.uStart < q ∧
      glitchEffect inp q d g = .ok ({ g with thr := glitchThreshold q d.uLen, rd := 0 }, inp)) ∨
    (g.filling = false ∧ g.thr ≤ (g.rd : Q) ∧ q ≤ d.uStart ∧
      glitchEffect inp q d g = .ok (g, inp)) := by
  rcases hf : g.filling with _ | _
  · rcases lt_or_ge (g.rd : Q) g.thr with h | h
    · rcases memRead_cases g.buf g.rd with ⟨h1, e⟩ | ⟨h1, e⟩
      · rcases memWrite_cases g.buf g.rd inp with ⟨_, e'⟩ | ⟨h2, _⟩
        · exact .inr (.inr (.inl ⟨rfl, h, h1, by simp [glitchEffect, hf, h, glitchReplay, e, e']⟩))
        · omega
      · exact .inr (.inr (.inr (.inl ⟨rfl, h, h1, by simp [glitchEffect, hf, h, glitchReplay, e]⟩)))
    · rcases lt_or_ge d.uStart q with h1 | h1
      · exact .inr (.inr (.inr (.inr (.inl ⟨rfl, h, h1, by
          simp [glitchEffect, hf, not_lt.mpr h, glitchIdle, happens, h1]⟩))))
      · exact .inr (.inr (.inr (.inr (.inr ⟨rfl, h, h1, by
          simp [glitchEffect, hf, not_lt.mpr h, glitchIdle, happens, not_lt.mpr h1]⟩))))
  · rcases memWrite_cases g.buf g.wr inp with ⟨h, e⟩ | ⟨h, e⟩
    · exact .inl ⟨rfl, h, by simp [glitchEffect, hf, glitchFill, e]⟩
    · exact .inr (.inl ⟨rfl, h, by simp [glitchEffect, hf, glitchFill, e]⟩)

/-- R120: the command that ticks voice `v`. -/
theorem exec_voiceCommand (v : Fin 5) (b : VoiceOps) (s : State) :
    exec (voiceCommand v b) s =
      withLegal (voiceProblem b) (.next (s.setVoice v (voiceTick v b s.voice[v]))) := by
  match v with
  | 0 => rfl
  | 1 => rfl
  | 2 => rfl
  | 3 => rfl
  | 4 => rfl

/-- R80, R83, R290: everything a step can do. -/
theorem step_cases (s : State) :
    (s.inputs = [] ∧ step s = .next s) ∨
    ∃ e es, s.inputs = e :: es ∧
      ((e.rst = true ∧ step s = .next (resetBlock (s.setInputs es))) ∨
       (e.rst = false ∧ e.cmdValid = false ∧ step s = .next (s.setInputs es)) ∨
       (e.rst = false ∧ e.cmdValid = true ∧
         ((∃ i, decode e.cmd e.ports = .ok i ∧ step s = exec i (s.setInputs es)) ∨
          (∃ w, decode e.cmd e.ports = .error (.reservedWord w) ∧
             step s = .refused (.reservedWord w))))) := by
  rcases h : s.inputs with _ | ⟨e, es⟩
  · exact .inl ⟨rfl, by simp [step, nextEdge_nil s h]⟩
  · refine .inr ⟨e, es, rfl, ?_⟩
    have hs : step s = if e.rst then .next (resetBlock (s.setInputs es))
        else if e.cmdValid then
          match decode e.cmd e.ports with
          | .ok i => exec i (s.setInputs es)
          | .error (.reservedWord w) => .refused (.reservedWord w)
        else .next (s.setInputs es) := by
      simp only [step, nextEdge_cons s e es h] <;> rfl
    rw [hs]
    rcases hr : e.rst with _ | _
    · rcases hv : e.cmdValid with _ | _
      · exact .inr (.inl ⟨rfl, rfl, by simp⟩)
      · refine .inr (.inr ⟨rfl, rfl, ?_⟩)
        rcases hd : decode e.cmd e.ports with ⟨⟨w⟩⟩ | i
        · exact .inr ⟨w, rfl, by simp⟩
        · exact .inl ⟨i, rfl, by simp⟩
    · exact .inl ⟨rfl, by simp⟩

end Sys2Proof.Machine
end

