-- ==== Sys2Proof/Machine/Assembler.lean ====
section
/-!
DEFINITION. The textual form of a program (spec/30_encoding R92, R93): a list of lines, each a comment,
a directive, a `REPEAT` or a command, assembled into the clock edges the host presents. A command line
is the mnemonic of R82, a space, and `name=value` pairs separated by commas in any order; an operand
left out is 0, but `dt` and `sr`, which the last `.rate` sets. Nothing in `step` reads this. What R92 and
R93 leave open is settled in log 15.
-/

namespace Sys2Proof.Machine

/-- R92: the value of an operand: a number (or a Boolean, 0 or 1), a bracketed list, or for an operand
with two indices a list of lists. -/
inductive AsmValue where
  | num (x : Q)
  | row (xs : List Q)
  | rows (xss : List (List Q))
  deriving DecidableEq, Repr

/-- The `name=value` pairs of a command line. -/
abbrev AsmOperands := List (List Char × AsmValue)

/-! ### Characters to numbers -/

/-- A line without its leading blanks. -/
def skipBlanks : List Char → List Char
  | ' ' :: cs => skipBlanks cs
  | cs => cs

/-- A piece of a line without the blanks around it. -/
def trimBlanks (cs : List Char) : List Char := (skipBlanks (skipBlanks cs).reverse).reverse

/-- The pieces of a line between the separators `sep` that stand outside every bracket. -/
def splitOutside (sep : Char) : Nat → List Char → List Char → List (List Char)
  | _, piece, [] => [piece.reverse]
  | depth, piece, c :: cs =>
    if c = sep ∧ depth = 0 then piece.reverse :: splitOutside sep depth [] cs
    else
      splitOutside sep (if c = '[' then depth + 1 else if c = ']' then depth - 1 else depth)
        (c :: piece) cs

/-- The pieces of a line between the separators `sep`, without the blanks around them. -/
def pieces (sep : Char) (cs : List Char) : List (List Char) :=
  (splitOutside sep 0 [] cs).map trimBlanks

/-- A natural number in decimal digits. -/
def asmNat (cs : List Char) : Option Nat :=
  if cs.isEmpty || !(cs.all Char.isDigit) then none
  else some (cs.foldl (fun n c => 10 * n + (c.toNat - '0'.toNat)) 0)

/-- R92: an integer, an exact decimal or a fraction, without its sign. -/
def asmUnsigned (cs : List Char) : Option Q :=
  match pieces '/' cs, pieces '.' cs with
  | [a, b], _ =>
    match asmNat a, asmNat b with
    | some n, some m => if m = 0 then none else some ((n : Q) / (m : Q))
    | _, _ => none
  | _, [a, b] =>
    match asmNat a, asmNat b with
    | some n, some m => some ((n : Q) + (m : Q) / (10 : Q) ^ b.length)
    | _, _ => none
  | _, _ => (asmNat cs).map fun n => (n : Q)

/-- R92: a number; a minus sign makes it negative. -/
def asmNumber (cs : List Char) : Option Q :=
  match cs with
  | '-' :: r => (asmUnsigned r).map fun x => -x
  | _ => asmUnsigned cs

/-- The text between the brackets of a bracketed list. -/
def bracketed (cs : List Char) : Option (List Char) :=
  match cs, cs.reverse with
  | '[' :: r, ']' :: _ => some (r.take (r.length - 1))
  | _, _ => none

/-- R92: a bracketed list of numbers. -/
def asmRow (cs : List Char) : Option (List Q) :=
  (bracketed cs).bind fun r => (pieces ',' r).mapM asmNumber

/-- R92: the value of an operand. -/
def asmValue (cs : List Char) : Option AsmValue :=
  match asmNumber cs, asmRow cs with
  | some x, _ => some (.num x)
  | none, some xs => some (.row xs)
  | none, none => (bracketed cs).bind fun r => ((pieces ',' r).mapM asmRow).map .rows

/-- R92: one `name=value` pair. -/
def asmPair (cs : List Char) : Option (List Char × AsmValue) :=
  match pieces '=' cs with
  | [name, value] => (asmValue value).map fun v => (name, v)
  | _ => none

/-! ### Operands by name -/

/-- R92: a number operand; left out, it is `z`. -/
def opNum (ops : AsmOperands) (name : String) (z : Q := 0) : Option Q :=
  match ops.lookup name.toList with
  | none => some z
  | some (.num x) => some x
  | some _ => none

/-- R92: a Boolean from its number. -/
def boolOfQ (x : Q) : Option Bool := if x = 0 then some false else if x = 1 then some true else none

/-- A natural number from its rational. -/
def natOfQ (x : Q) : Option Nat := if x.den = 1 ∧ 0 ≤ x.num then some x.num.toNat else none

/-- R92: a Boolean operand. -/
def opBool (ops : AsmOperands) (name : String) : Option Bool := (opNum ops name).bind boolOfQ

/-- R92: a natural operand. -/
def opNat (ops : AsmOperands) (name : String) : Option Nat := (opNum ops name).bind natOfQ

/-- A list of exactly `n` values as a vector. -/
def asVector {α : Type} (n : Nat) (xs : List α) : Option (Vector α n) :=
  if h : xs.length = n then some ⟨xs.toArray, by simpa using h⟩ else none

/-- R92: an indexed operand of `n` numbers; left out, all zeros. -/
def opRow (ops : AsmOperands) (name : String) (n : Nat) : Option (Vector Q n) :=
  match ops.lookup name.toList with
  | none => some (Vector.replicate n 0)
  | some (.row xs) => asVector n xs
  | some _ => none

/-- R92: an operand with two indices, `n` rows of `m` numbers; left out, all zeros. -/
def opRows (ops : AsmOperands) (name : String) (n m : Nat) : Option (List (Vector Q m)) :=
  match ops.lookup name.toList with
  | none => some (List.replicate n (Vector.replicate m 0))
  | some (.rows xss) => if xss.length = n then xss.mapM (asVector m) else none
  | some _ => none

/-- R92: an indexed operand of `n` Booleans. -/
def opBools (ops : AsmOperands) (name : String) (n : Nat) : Option (Vector Bool n) :=
  (opRow ops name n).bind fun v => (v.toList.mapM boolOfQ).bind (asVector n)

/-- R92: an indexed operand of `n` naturals. -/
def opNats (ops : AsmOperands) (name : String) (n : Nat) : Option (Vector Nat n) :=
  (opRow ops name n).bind fun v => (v.toList.mapM natOfQ).bind (asVector n)

/-! ### Operand bundles -/

/-- R93: the defaults of `dt` and `sr`. -/
structure AsmRate where
  dt : Q
  sr : Q
  deriving DecidableEq, Repr

/-- DESIGN CHOICE (log 15): the rate of the commands before any `.rate`, for which R92 gives no value:
that of `restPorts`, `.rate 48000`. With it programs P3 and P5, which have no `.rate`, are legal. -/
def firstRate : AsmRate := { dt := restDt, sr := 48000 }

/-- R93: what `.rate N` sets. -/
def rateOf (n : Q) : AsmRate := { dt := 1 / n, sr := n }

/-- R87. -/
def asmGwr (ops : AsmOperands) : Option GwrOps := do
  pure { s := ← opNat ops "s", c := ← opNat ops "c", level := ← opNum ops "level" }

/-- R84. -/
def asmVoice (r : AsmRate) (ops : AsmOperands) : Option VoiceOps := do
  pure { dt := ← opNum ops "dt" r.dt, sr := ← opNum ops "sr" r.sr,
         trigConn := ← opBool ops "trig_conn", trigIn := ← opNum ops "trig_in",
         trigParam := ← opNum ops "trig_param", lengthParam := ← opNum ops "length_param" }

/-- R85, operands 0 to 9. -/
def asmFx (r : AsmRate) (ops : AsmOperands) : Option FxOps := do
  pure { dt := ← opNum ops "dt" r.dt, sr := ← opNum ops "sr" r.sr,
         inConn := ← opBool ops "in_conn", outConn := ← opBool ops "out_conn",
         inp := ← opNum ops "in", param := ← opNum ops "param",
         cvConn := ← opBool ops "cv_conn", cv := ← opNum ops "cv",
         att := ← opNum ops "att", wet := ← opNum ops "wet" }

/-- R85, operands 10 and 11. -/
def asmDraws (ops : AsmOperands) : Option FxDraws := do
  pure { uStart := ← opNum ops "u_start", uLen := ← opNum ops "u_len" }

/-- R86. -/
def asmKlok (r : AsmRate) (ops : AsmOperands) : Option KlokOps := do
  pure { dt := ← opNum ops "dt" r.dt, sr := ← opNum ops "sr" r.sr,
         run := ← opBool ops "run", bpm := ← opNum ops "bpm" }

/-- R86. -/
def asmSecu (r : AsmRate) (ops : AsmOperands) : Option SecuOps := do
  let cells ← opRows ops "u_cell" 8 5
  pure { dt := ← opNum ops "dt" r.dt, sr := ← opNum ops "sr" r.sr,
         trigIn := ← opNum ops "trig_in", rstIn := ← opNum ops "rst_in",
         randIn := ← opNum ops "rand_in", randBtn := ← opNum ops "rand_btn",
         sparse := ← opNum ops "sparse", prob := ← opNum ops "prob",
         probCv := ← opNum ops "prob_cv", nsteps := ← opNat ops "nsteps",
         outConn := ← opBools ops "out_conn" 5,
         uCell := ← asVector 40 (cells.flatMap fun v => v.toList),
         uProb := ← opNum ops "u_prob", uStep := ← opNum ops "u_step" }

/-- R87. -/
def asmScener (r : AsmRate) (ops : AsmOperands) : Option ScenerOps := do
  let marks ← opRows ops "alert" 6 2
  pure { dt := ← opNum ops "dt" r.dt, sr := ← opNum ops "sr" r.sr,
         trigIn := ← opNum ops "trig_in", rstIn := ← opNum ops "rst_in",
         rstBtn := ← opNum ops "rst_btn", nscenes := ← opNat ops "nscenes",
         len := ← opNats ops "len" 6, alert := ← asVector 6 marks,
         loop := ← opBool ops "loop", ttime := ← opNum ops "ttime",
         inp := ← opRow ops "in" 30 }

/-- R13, R87 (log 19). -/
def asmMix (r : AsmRate) (ops : AsmOperands) : Option MixOps := do
  pure { dt := ← opNum ops "dt" r.dt, sr := ← opNum ops "sr" r.sr, conn := ← opBools ops "conn" 5, vout := ← opRow ops "vout" 5 }

/-! ### Commands -/

/-- R84 to R87: the operand names of a unit's bundle, by its `UNIT` field. -/
def operandNames (w : CmdWord) : List String :=
  match (unitField w).toNat with
  | 0 => if w = 2 then ["s", "c", "level"] else []
  | 1 => ["dt", "sr", "trig_conn", "trig_in", "trig_param", "length_param"]
  | 2 => ["dt", "sr", "in_conn", "out_conn", "in", "param", "cv_conn", "cv", "att", "wet"] ++
      (if w = 0x23 ∨ w = 0x24 then ["u_start", "u_len"] else [])
  | 3 => ["dt", "sr", "run", "bpm"]
  | 4 => ["dt", "sr", "trig_in", "rst_in", "rand_in", "rand_btn", "sparse", "prob", "prob_cv",
      "nsteps", "out_conn", "u_cell", "u_prob", "u_step"]
  | 5 => ["dt", "sr", "trig_in", "rst_in", "rst_btn", "nscenes", "len", "alert", "loop", "ttime", "in"]
  | 6 => ["dt", "sr", "conn", "vout"]
  | _ => []

/-- R82: the mnemonics and their words. -/
def mnemonicTable : List (String × CmdWord) :=
  [("NOP", 0x00), ("RESET", 0x01), ("GWR", 0x02),
   ("TICK.VOICE 0", 0x10), ("TICK.VOICE 1", 0x11), ("TICK.VOICE 2", 0x12),
   ("TICK.VOICE 3", 0x13), ("TICK.VOICE 4", 0x14),
   ("TICK.BITCRUSH", 0x20), ("TICK.DECIMATE", 0x21), ("TICK.DISTORT", 0x22),
   ("TICK.GLITCH", 0x23), ("TICK.CROP", 0x24),
   ("TICK.KLOK", 0x30), ("TICK.SECU", 0x40), ("TICK.SCENER", 0x50), ("TICK.MIXBUS", 0x60)]

/-- The operands of a line belong to the command, and none is named twice, which R92 does not allow or
forbid (DESIGN CHOICE, log 15: such a line is not read). -/
def operandsRead (w : CmdWord) (ops : AsmOperands) : Bool :=
  ops.all (fun o => (operandNames w).any fun n => o.1 = n.toList) &&
    decide ((ops.map fun o => o.1).Nodup)

/-- The operand ports a command word's operands are driven onto, every other port at rest. -/
def asmPorts (r : AsmRate) (w : CmdWord) (ops : AsmOperands) : Option OperandPorts :=
  if operandsRead w ops then
    match (unitField w).toNat with
    | 0 => if w = 2 then (asmGwr ops).map fun b => { gwr := b } else some { }
    | 1 => (asmVoice r ops).map fun b => { voice := b }
    | 2 => (asmFx r ops).bind fun b => (asmDraws ops).map fun d => { fx := b, draws := d }
    | 3 => (asmKlok r ops).map fun b => { klok := b }
    | 4 => (asmSecu r ops).map fun b => { secu := b }
    | 5 => (asmScener r ops).map fun b => { scener := b }
    | 6 => (asmMix r ops).map fun b => { mixbus := b }
    | _ => none
  else none

/-- The rest of a line after a word that begins it and ends there or at a blank. -/
def afterWord (word : String) (cs : List Char) : Option (List Char) :=
  if word.toList.isPrefixOf cs then
    match cs.drop word.length with
    | [] => some []
    | ' ' :: r => some (skipBlanks r)
    | _ => none
  else none

/-- What a line of a program says. -/
inductive AsmLine where
  | blank
  | rate (n : Q)
  | command (count : Nat) (w : CmdWord) (ops : AsmOperands)
  | openBlock (count : Nat)
  | closeBlock
  deriving DecidableEq, Repr

/-- R92: a command line. -/
def asmCommand (count : Nat) (cs : List Char) : Option AsmLine :=
  (mnemonicTable.findSome? fun row => (afterWord row.1 cs).map fun rest => (row.2, rest)).bind
    fun found =>
      if found.2.isEmpty then some (.command count found.1 [])
      else ((pieces ',' found.2).mapM asmPair).map (.command count found.1)

/-- R93: what follows `REPEAT n`: an opened block, its brace on the same line (log 15), or a command. -/
def asmRepeat (cs : List Char) : Option AsmLine :=
  (asmNat (cs.takeWhile Char.isDigit)).bind fun n =>
    match trimBlanks (cs.dropWhile Char.isDigit) with
    | [c] => if c.toNat = 123 then some (.openBlock n) else asmCommand n [c]
    | r => asmCommand n r

/-- R93: what follows `.rate`. R93 does not say what `N` may be; it is any number of R92 above 0, as
`sr` must be (R88) and `1/N` needs (DESIGN CHOICE, log 15). -/
def asmRate (cs : List Char) : Option AsmLine :=
  (asmNumber cs).bind fun n => if 0 < n then some (.rate n) else none

/-- R93: a line cut at its braces: an opening brace (character 123) ends a piece, a closing one (125)
is a piece of its own. R93 does not say whether a brace may share a line with a command; with the cut it
may, on either side (DESIGN CHOICE, log 15). -/
def cutAtBraces : List Char → List Char → List (List Char)
  | piece, [] => [piece.reverse]
  | piece, c :: cs =>
    if c.toNat = 123 then (c :: piece).reverse :: cutAtBraces [] cs
    else if c.toNat = 125 then piece.reverse :: [c] :: cutAtBraces [] cs
    else cutAtBraces (c :: piece) cs

/-- R92, R93: one piece of a line. -/
def asmPiece (piece : List Char) : Option AsmLine :=
  let cs := trimBlanks piece
  match cs with
  | [] => some .blank
  | [c] => if c.toNat = 125 then some .closeBlock else asmCommand 1 cs
  | _ =>
    match afterWord ".rate" cs, afterWord "REPEAT" cs with
    | some r, _ => asmRate r
    | none, some r => asmRepeat r
    | none, none => asmCommand 1 cs

/-- R92, R93: one line, as its pieces; what follows a `;` is a comment. -/
def asmLine (text : String) : Option (List AsmLine) :=
  (cutAtBraces [] (text.toList.takeWhile fun c => c ≠ ';')).mapM asmPiece

/-- R93: the lines with every `REPEAT` expanded; the stack holds the blocks still open, innermost
first, each with its count and the lines gathered in it so far. -/
def expand : List (Nat × List AsmLine) → List AsmLine → Option (List AsmLine)
  | [(_, done)], [] => some done
  | _, [] => none
  | stack, .openBlock n :: ls => expand ((n, []) :: stack) ls
  | (n, body) :: (m, outer) :: stack, .closeBlock :: ls =>
    expand ((m, outer ++ (List.replicate n body).flatten) :: stack) ls
  | _, .closeBlock :: _ => none
  | (m, outer) :: stack, l :: ls => expand ((m, outer ++ [l]) :: stack) ls
  | [], _ :: _ => none

/-- R92, R93: the clock edges of expanded lines, at the rate of the last `.rate`. -/
def edgesOf : AsmRate → List AsmLine → Option (List ClockEdge)
  | _, [] => some []
  | _, .rate n :: ls => edgesOf (rateOf n) ls
  | r, .command count w ops :: ls =>
    match asmPorts r w ops, edgesOf r ls with
    | some p, some es => some (List.replicate count { cmdValid := true, cmd := w, ports := p } ++ es)
    | _, _ => none
  | r, _ :: ls => edgesOf r ls

/-- R92, R93: a program assembled into the clock edges the host presents; none where a line is not of
the form the rules give. -/
def assemble (program : List String) : Option (List ClockEdge) :=
  ((program.mapM asmLine).bind fun ls => expand [(1, [])] ls.flatten).bind (edgesOf firstRate)

end Sys2Proof.Machine
end

