-- ==== Sys2Proof/Tests/Slice0.lean ====
section
/-!
SUPPORT. The model's own tests: ill-formed commands refused, every command word decoded from the bits
of spec/30_encoding R81 and R82, single ticks against spec/95_test_vectors (each cites its vector), and
for every statement with hypotheses a witness that meets them all.
-/

namespace Sys2Proof.Tests

open Sys2Proof.Machine Sys2Proof.Safety Sys2Proof.Claims

-- one thread for the kernel decisions of this file
set_option Elab.async false

/-! ### Operands and states the tests start from -/

/-- The state a command leaves, if it completes. -/
def after (i : Instr) (s : State) : Option State :=
  match exec i s with
  | .next t => some t
  | .fault _ => none
  | .refused _ => none

/-- Operands of a connected voice at 100 Hz. -/
def voiceOps : VoiceOps := { dt := 1 / 100, sr := 100, trigConn := true, lengthParam := 5 }

/-- Operands of a connected effect, fully wet. -/
def fxOps : FxOps := { dt := 1 / 48000, sr := 48000, inConn := true, outConn := true, wet := 1 }

/-- Every voice connected, at 1000 Hz. -/
def mixOps : MixOps :=
  { dt := 1 / 1000, sr := 1000, conn := Vector.replicate 5 true, vout := #v[1, 2, 3, 4, 5] }

/-- Operands of a running clock divider with the period 5/2 (V-KL-2). -/
def klokOps : KlokOps := { dt := 1 / 1000, sr := 1000, run := true, bpm := 12000 }

/-- Operands of the step sequencer of V-SE-3. -/
def secuOps : SecuOps where
  sr := 8
  nsteps := 4
  outConn := Vector.replicate 5 true
  uCell := Vector.ofFn fun a => (a.val : Q) / 40

/-- Operands of the scene crossfader of V-SC-2. -/
def scenerOps : ScenerOps where
  dt := 1 / 1000
  sr := 1000
  nscenes := 2
  len := #v[2, 3, 0, 0, 0, 0]
  alert := #v[#v[0, 1 / 2], #v[1 / 3, 99 / 100], #v[0, 0], #v[0, 0], #v[0, 0], #v[0, 0]]
  loop := true
  ttime := 1 / 500
  inp := Vector.ofFn fun i =>
    if i.val < 5 then (i.val : Q) + 1 else if i.val < 10 then 10 * ((i.val : Q) - 4) else 0

/-- A glitch buffer after its fill phase, inside a window of threshold 5/2. -/
def replaying : Glitch := { buf := [(1, 5)], wr := 24000, rd := 0, thr := 5 / 2, filling := false }

/-- A voice whose trigger detector is LOW. -/
def armedVoice : Voice := { Voice.reset with ed := { state := .low } }

/-- A scene crossfader past its startup, its detectors LOW, after two steps of scene 0 (V-SC-2). -/
def scenerMid : Scener where
  cur := 0
  prev := 0
  steps := 2
  sceneSteps := 2
  ramp := { val := 1 }
  finished := false
  starting := false
  edTrig := { state := .low }
  edRst := { state := .low }
  pgAlert := Vector.replicate 2 { rem := 0 }
  oCol := #v[1, 2, 3, 4, 5]
  oAlert := Vector.replicate 2 0
  oAlight := Vector.replicate 2 0

/-- A clock edge with a command. -/
def edge (i : Instr) : ClockEdge :=
  { cmdValid := true, cmd := (encode i).1, ports := (encode i).2 }

/-- A state in the middle of a run: the glitch replaying, a crop window open, a command to come. -/
def busy : State :=
  { State.reset with
    inputs := [edge (.tickMixbus mixOps)]
    glitch := replaying
    crop := { cnt := 0, thr := 3 / 2 }
    decim := { cnt := 31, held := 2 }
    scener := scenerMid
    mixOut := 3 }

/-- `busy` meets the invariant. -/
theorem busy_inv : StateInv busy where
  voice v := by
    have h : busy.voice[v] = Voice.reset := by simp [busy, State.reset]
    rw [h]
    constructor <;> simp [Voice.reset, Rp.reset, InUnit]
  glitch := by
    constructor
    · decide +kernel
    · intro h; cases h
    · intro _; rfl
    · decide +kernel
    · decide +kernel
    · decide +kernel
  crop := ⟨by decide +kernel, by decide +kernel⟩
  decim := by decide
  klok := by constructor <;> simp [busy, State.reset, Klok.reset]
  secu := by constructor <;> simp [busy, State.reset, Secu.reset]
  scener := by constructor <;> simp [busy, scenerMid, InUnit]

/-! ### WellFormed: one ill-formed command per check, refused by it and by `exec` -/

theorem test_refuses_negative_dt :
    (Instr.tickDistort { dt := -1, sr := 1 }).problem = some .negativeDt := by decide +kernel

theorem test_refuses_zero_sample_rate :
    (Instr.tickBitcrush { dt := 0, sr := 0 }).problem = some .sampleRateNotPositive := by
  decide +kernel

theorem test_refuses_draw_of_one :
    (Instr.tickCrop { sr := 1 } { uStart := 1 }).problem = some .drawOutOfRange := by decide +kernel

theorem test_refuses_length_seven :
    (Instr.tickVoice3 { sr := 1, lengthParam := 7 }).problem = some .lengthParamTooLarge := by
  decide +kernel

theorem test_refuses_running_at_zero_bpm :
    (Instr.tickKlok { sr := 1, run := true }).problem = some .bpmNotPositive := by decide +kernel

theorem test_refuses_nine_steps :
    (Instr.tickSecu { secuOps with nsteps := 9 }).problem = some .stepCountOutOfRange := by
  decide +kernel

theorem test_refuses_seven_scenes :
    (Instr.tickScener { scenerOps with nscenes := 7 }).problem = some .sceneCountOutOfRange := by
  decide +kernel

theorem test_refuses_scenes_of_no_length :
    (Instr.tickScener { scenerOps with len := #v[0, 0, 3, 3, 3, 3] }).problem =
      some .noSceneLength := by decide +kernel

theorem test_refuses_grid_row_eight :
    (Instr.gwr { s := 8 }).problem = some .gridIndexOutOfRange := by decide +kernel

theorem test_accepts_the_rest_operands :
    [Instr.tickVoice0 restPorts.voice, .tickGlitch restPorts.fx restPorts.draws,
      .tickKlok restPorts.klok, .tickSecu restPorts.secu, .tickScener restPorts.scener,
      .gwr { s := 7, c := 4 }].all Instr.wellFormed = true := by decide +kernel

/-! ### Decode: the bits of R81 and R82, `UNIT` in 7..4 and `FN` in 3..0 -/

theorem test_decode_system (p : OperandPorts) :
    decode 0b00000000 p = .ok .nop ∧ decode 0b00000001 p = .ok .reset ∧
    decode 0b00000010 p = .ok (.gwr p.gwr) := ⟨rfl, rfl, rfl⟩

theorem test_decode_voices (p : OperandPorts) :
    decode 0b00010000 p = .ok (.tickVoice0 p.voice) ∧
    decode 0b00010001 p = .ok (.tickVoice1 p.voice) ∧
    decode 0b00010010 p = .ok (.tickVoice2 p.voice) ∧
    decode 0b00010011 p = .ok (.tickVoice3 p.voice) ∧
    decode 0b00010100 p = .ok (.tickVoice4 p.voice) := ⟨rfl, rfl, rfl, rfl, rfl⟩

theorem test_decode_effects (p : OperandPorts) :
    decode 0b00100000 p = .ok (.tickBitcrush p.fx) ∧
    decode 0b00100001 p = .ok (.tickDecimate p.fx) ∧
    decode 0b00100010 p = .ok (.tickDistort p.fx) ∧
    decode 0b00100011 p = .ok (.tickGlitch p.fx p.draws) ∧
    decode 0b00100100 p = .ok (.tickCrop p.fx p.draws) := ⟨rfl, rfl, rfl, rfl, rfl⟩

theorem test_decode_sequencing (p : OperandPorts) :
    decode 0b00110000 p = .ok (.tickKlok p.klok) ∧ decode 0b01000000 p = .ok (.tickSecu p.secu) ∧
    decode 0b01010000 p = .ok (.tickScener p.scener) ∧
    decode 0b01100000 p = .ok (.tickMixbus p.mixbus) := ⟨rfl, rfl, rfl, rfl⟩

/-- R83: the words at both ends of every reserved range. -/
theorem test_decode_reserved (p : OperandPorts) :
    ∀ w ∈ ([0x03, 0x0F, 0x15, 0x1F, 0x25, 0x2F, 0x31, 0x3F, 0x41, 0x4F, 0x51, 0x5F, 0x61, 0x6F, 0x70,
      0xFF] : List CmdWord), decode w p = .error (.reservedWord w) := by
  intro w hw
  simp only [List.mem_cons, List.not_mem_nil, or_false] at hw
  rcases hw with rfl | rfl | rfl | rfl | rfl | rfl | rfl | rfl | rfl | rfl | rfl | rfl | rfl | rfl |
    rfl | rfl <;> rfl

/-! ### Cells and shared functions -/

/-- V-XF-4, V-XF-5, V-Q-1, V-Q-3, V-Q-4. -/
theorem test_xfade_and_quantity :
    xfade (27 / 10) 3 (1 / 2) = 57 / 20 ∧ xfade 4 8 (3 / 2) = 10 ∧
    quantity (1 / 2) true 5 (1 / 2) = 3 / 4 ∧ quantity (9 / 10) true 5 1 = 1 ∧
    quantity (1 / 10) true (-5) 1 = 0 := by decide +kernel

/-- V-ENV-2, V-ENV-3, V-ENV-4. -/
theorem test_env :
    env (1 / 100) 10 = 1 / 2 ∧ env (1 / 50) 6 = 1 ∧
    env (51 / 100) 6 = 17596287801 / 1000000000000 := by decide +kernel

/-- V-ED-1, calls 1, 3, 4, 5, 6 and 7. -/
theorem test_edge_detector :
    Ed.reset.proc 5 = (⟨.high⟩, false) ∧ Ed.reset.proc 0 = (⟨.low⟩, false) ∧
    Ed.proc ⟨.low⟩ (99 / 100) = (⟨.low⟩, false) ∧ Ed.proc ⟨.low⟩ 1 = (⟨.high⟩, true) ∧
    Ed.proc ⟨.high⟩ (-3) = (⟨.low⟩, false) ∧ Ed.proc ⟨.low⟩ 10 = (⟨.high⟩, true) := by decide +kernel

/-- V-PG-1, and the shorter trigger of V-PG-3. -/
theorem test_pulse_generator :
    Pg.proc ⟨1 / 1000⟩ (3 / 4000) = (⟨1 / 4000⟩, 1) ∧
    Pg.proc ⟨1 / 4000⟩ (3 / 4000) = (⟨-1 / 2000⟩, 1) ∧
    Pg.proc ⟨-1 / 2000⟩ (3 / 4000) = (⟨-1 / 2000⟩, 0) ∧
    Pg.trig ⟨1 / 500⟩ (1 / 1000) = ⟨1 / 500⟩ := by decide +kernel

/-- V-LK-1 ticks 1, 2 and 4, V-LK-3, V-LK-4. -/
theorem test_lockout :
    lockout true 0 0 8 = (true, 2) ∧ lockout true 1 2 8 = (false, 1) ∧
    lockout true 1 0 8 = (true, 2) ∧ lockout true 0 1000 48000 = (true, 12000) ∧
    lockout true 1 (1 / 2) 22050 = (false, 0) := by decide +kernel

/-! ### Commands, one tick each -/

/-- V-SY-1. -/
theorem test_nop : after .nop busy = some busy := by decide +kernel

/-- V-SY-2. -/
theorem test_reset_clears_the_buffer :
    (after .reset busy).map (fun t => (t.glitch, t.mixOut, t.inputs)) =
      some (Glitch.reset, 0, busy.inputs) := by decide +kernel

/-- V-SE-4: cell (2, 4) is linear cell 14. -/
theorem test_gwr :
    (after (.gwr { s := 2, c := 4, level := 1 }) State.reset).map
      (fun t => (t.secu.grid[14], t.secu.grid[13], t.secu.cell 2 4)) = some (1, 0, 1) := by
  decide +kernel

/-- V-VO-2, tick 1. -/
theorem test_voice0_button :
    (after (.tickVoice0 { dt := 1 / 8, sr := 8, trigConn := true, trigParam := 1, lengthParam := 5 })
      State.reset).map (fun t => (t.voice[0].lock, t.voice[0].oAmp, t.voice[0].oOsc, t.voice[0].oEnv,
        t.voice[0].oGate, t.voice[0].pg.rem)) =
      some (2, 1 / 4, 1, 5929 / 10000, 1, 3 / 8) := by decide +kernel

/-- V-VO-3, tick 2: the edge, and the snare's second envelope. -/
theorem test_voice1_edge :
    (after (.tickVoice1 { voiceOps with lengthParam := 2, trigIn := 5 })
      (State.reset.setVoice 1 { armedVoice with amp := ⟨1 / 20⟩, osc := ⟨1 / 10⟩ })).map
      (fun t => (t.voice[1].oOsc, t.voice[1].oAmp, t.voice[1].oEnv, t.voice[1].oEnvB, t.voice[1].oGate,
        t.voice[1].lock)) =
      some (1 / 10, 1 / 20, 9409 / 10000, 832972004929 / 1000000000000, 1, 25) := by decide +kernel

/-- V-VO-4, tick 3: a voice that is not connected keeps everything but its light. -/
theorem test_voice2_disconnected :
    (after (.tickVoice2 { voiceOps with trigConn := false, trigIn := 5, trigParam := 1 })
      (State.reset.setVoice 2 { armedVoice with lock := 25, oLight := 1, oGate := 1 })).map
      (fun t => (t.voice[2].oLight, t.voice[2].oGate, t.voice[2].lock, t.voice[2].ed.state)) =
      some (0, 1, 25, .low) := by decide +kernel

/-- V-VO-4, tick 4: the held button is locked out. -/
theorem test_voice2_locked_out :
    (after (.tickVoice2 { voiceOps with trigParam := 1 / 2 })
      (State.reset.setVoice 2
        { armedVoice with amp := ⟨1 / 50⟩, lock := 25, prevTrig := 1, pg := ⟨49 / 100⟩ })).map
      (fun t => (t.voice[2].oAmp, t.voice[2].oEnv, t.voice[2].lock, t.voice[2].pg.rem)) =
      some (1 / 25, 79792266297612001 / 97656250000000000, 24, 12 / 25) := by decide +kernel

/-- V-ENV-4, k = 2: the ramp comes to 51/100; voice 3 has no second envelope (R124). -/
theorem test_voice3_decay :
    (after (.tickVoice3 { voiceOps with lengthParam := 6 })
      (State.reset.setVoice 3 { armedVoice with amp := ⟨1 / 2⟩ })).map
      (fun t => (t.voice[3].oEnv, t.voice[3].oEnvB)) = some (2601 / 10000, 0) := by decide +kernel

/-- V-ENV-7, k = 2: the ramp comes to 1/25. -/
theorem test_voice4_decay :
    (after (.tickVoice4 { voiceOps with lengthParam := 6 })
      (State.reset.setVoice 4 { armedVoice with amp := ⟨3 / 100⟩ })).map
      (fun t => (t.voice[4].oEnv, t.voice[4].oLight)) = some (2401 / 2500, 2401 / 2500) := by
  decide +kernel

/-- V-BC-1, from the exact values of `EXP2` alone. -/
theorem test_bitcrush_step_one :
    after (.tickBitcrush { fxOps with inp := 27 / 10, param := 4 / 5 }) State.reset =
      some (State.reset.setFxOut 0 3) := by
  have hq : intensity { fxOps with inp := 27 / 10, param := 4 / 5 } = 4 / 5 := by decide +kernel
  have hs : crushStep (4 / 5) = 1 := by
    have h := Config.exp2_int 0
    norm_num at h
    norm_num [crushStep, BC_BITS, BC_OFF, h]
  have hc : crush (27 / 10) (4 / 5) = 3 := by
    rw [crush, hs]
    have h : roundHaz (27 / 10 / 1) = 3 := by decide +kernel
    rw [h]
    norm_num
  have hp : fxProblem { fxOps with inp := 27 / 10, param := 4 / 5 } = none := by decide +kernel
  have he : exec (.tickBitcrush { fxOps with inp := 27 / 10, param := 4 / 5 }) State.reset =
      .next (State.reset.setFxOut 0 3) := by
    refine withLegal_next.mpr ⟨hp, ?_⟩
    rw [fxWrapper, hq]
    simp only [hc]
    simp [fxOps]
  rw [after, he]

/-- V-BC-13: an effect that is not connected is skipped. -/
theorem test_bitcrush_skipped :
    after (.tickBitcrush { fxOps with inp := 9, inConn := false }) busy = some busy := by
  decide +kernel

/-- V-DI-3, from `TANH(0) = 0` alone. -/
theorem test_distort_dry_mix :
    after (.tickDistort { fxOps with inp := 3, wet := 1 / 4 }) State.reset =
      some (State.reset.setFxOut 2 (9 / 4)) := by
  have hq : intensity { fxOps with inp := 3, wet := 1 / 4 } = 0 := by decide +kernel
  have hd : distort 3 0 = 0 := by simp [distort, Config.tanh_zero]
  have hp : fxProblem { fxOps with inp := 3, wet := 1 / 4 } = none := by decide +kernel
  have hx : xfade 3 0 (1 / 4) = 9 / 4 := by decide +kernel
  have he : exec (.tickDistort { fxOps with inp := 3, wet := 1 / 4 }) State.reset =
      .next (State.reset.setFxOut 2 (9 / 4)) := by
    refine withLegal_next.mpr ⟨hp, ?_⟩
    rw [fxWrapper, hq]
    simp only [hd, hx]
    simp [fxOps]
  rw [after, he]

/-- V-DC-3, tick 3. -/
theorem test_decimate_takes_a_sample :
    (after (.tickDecimate { fxOps with inp := 3, param := 3 / 32 })
      (State.reset.setDecim { cnt := 2, held := 0 })).map (fun t => (t.fxOut[1], t.decim)) =
      some (3, { cnt := 0, held := 3 }) := by decide +kernel

/-- V-DC-4 at `wet = 1/2`, tick 5. -/
theorem test_decimate_holds :
    (after (.tickDecimate { fxOps with inp := 5, param := 1 / 8, wet := 1 / 2 })
      (State.reset.setDecim { cnt := 0, held := 4 })).map (fun t => (t.fxOut[1], t.decim)) =
      some (9 / 2, { cnt := 1, held := 4 }) := by decide +kernel

/-- R161, R164: the last fill tick ends the phase. -/
theorem test_glitch_fill_ends :
    (after (.tickGlitch { fxOps with inp := 3 / 2 } { })
      (State.reset.setGlitch { Glitch.reset with wr := 23999 })).map
      (fun t => (t.fxOut[3], t.glitch.wr, t.glitch.filling, t.glitch.buf.read 23999)) =
      some (3 / 2, 24000, false, 3 / 2) := by decide +kernel

/-- R162: the element is read before it is written. -/
theorem test_glitch_replays_the_old_sample :
    (after (.tickGlitch { fxOps with inp := 7 } { })
      (State.reset.setGlitch { replaying with rd := 1 })).map
      (fun t => (t.fxOut[3], t.glitch.rd, t.glitch.buf.read 1)) = some (5, 2, 7) := by decide +kernel

/-- V-CR-1, tick 1. -/
theorem test_crop_starts :
    (after (.tickCrop { fxOps with inp := 4, param := 1 } { uStart := 0, uLen := 1 / 1600 })
      State.reset).map (fun t => (t.fxOut[4], t.crop)) = some (4, { cnt := 0, thr := 3 }) := by
  decide +kernel

/-- V-CR-2. -/
theorem test_crop_active :
    (after (.tickCrop { fxOps with inp := 4, param := 1, wet := 1 / 2 } { })
      (State.reset.setCrop { cnt := 0, thr := 3 })).map (fun t => (t.fxOut[4], t.crop.cnt)) =
      some (101 / 50, 1) := by decide +kernel

/-- V-KL-2, tick 1: the reset pulse. -/
theorem test_klok_first_running_tick :
    (after (.tickKlok klokOps) State.reset).map
      (fun t => (t.klok.cnt, t.klok.step, t.klok.oClk, t.klok.oRst, t.klok.period)) =
      some (1, 0, 0, 10, 5 / 2) := by decide +kernel

/-- V-KL-2, tick 6: a master pulse on step 2. -/
theorem test_klok_master_pulse :
    (after (.tickKlok klokOps)
      (State.reset.setKlok { Klok.reset with cnt := 5 / 2, step := 1, rstArmed := false })).map
      (fun t => (t.klok.cnt, t.klok.step, t.klok.oClk, t.klok.oRst, t.klok.oDiv)) =
      some (1, 2, 10, 0, #v[10, 10, 0, 0, 0, 0, 0, 0]) := by decide +kernel

/-- V-SE-3, tick 2: the button randomizes, ten cells go on. -/
theorem test_secu_randomizes :
    (after (.tickSecu { secuOps with randBtn := 1, sparse := 1 / 4 }) State.reset).map
      (fun t => (t.secu.randLock, t.secu.cell 1 4, t.secu.cell 2 0, t.secu.outStep)) =
      some (2, 1, 0, 0) := by decide +kernel

/-- V-SE-3, tick 6: a substituted step. -/
theorem test_secu_substitutes :
    (after (.tickSecu { secuOps with trigIn := 6, prob := 1 / 2, probCv := 1 / 4, uProb := 7 / 10,
                                     uStep := 5 / 8 })
      (State.reset.setSecu { Secu.reset with grid := Vector.replicate 40 1, step := 1,
                                             edTrig := ⟨.low⟩ })).map
      (fun t => (t.secu.step, t.secu.outStep, t.secu.oCol, t.secu.oLight)) =
      some (2, 2, Vector.replicate 5 6, #v[0, 0, 1, 0, 0, 0, 0, 0]) := by decide +kernel

/-- V-SC-2, tick 6: the scene change. -/
theorem test_scener_changes_scene :
    (after (.tickScener { scenerOps with trigIn := 5 }) (State.reset.setScener scenerMid)).map
      (fun t => (t.scener.cur, t.scener.prev, t.scener.sceneSteps, t.scener.ramp.val, t.scener.oCol)) =
      some (1, 0, 0, 1 / 2, #v[11 / 2, 11, 33 / 2, 22, 55 / 2]) := by decide +kernel

/-- V-SC-2, tick 10: the count wraps after the scan has used it. -/
theorem test_scener_wraps :
    (after (.tickScener { scenerOps with trigIn := 5 })
      (State.reset.setScener { scenerMid with cur := 1, prev := 1, steps := 4, sceneSteps := 1 })).map
      (fun t => (t.scener.steps, t.scener.cur, t.scener.sceneSteps, t.scener.oAlert)) =
      some (0, 1, 2, #v[0, 10]) := by decide +kernel

/-- V-MIX-3 and V-MIX-6; R88 for the `sr` of R13 (log 19). -/
theorem test_mixbus :
    mix { conn := #v[true, true, false, false, true], vout := #v[1, 2, 99, 99, 6] } = 3 ∧
    mix { vout := #v[1, 2, 3, 4, 5] } = 0 ∧
    (Instr.tickMixbus { mixOps with sr := 0 }).problem = some .sampleRateNotPositive := by decide +kernel

/-! ### The step and the assembler -/

/-- R83: a reserved word stops the step by name. -/
theorem test_step_refuses_reserved :
    step (State.reset.setInputs [{ cmdValid := true, cmd := 0x70 }]) = .refused (.reservedWord 0x70) :=
  rfl

/-- R92, R93: the defaults of `.rate`, `REPEAT`, a comment. -/
theorem test_assemble :
    (assemble ["; start", ".rate 1000", "REPEAT 2 TICK.KLOK run=1, bpm=15000", "RESET"]).map
      (fun es => es.map fun e => (e.cmd, e.ports.klok)) =
      some [(0x30, { dt := 1 / 1000, sr := 1000, run := true, bpm := 15000 }),
            (0x30, { dt := 1 / 1000, sr := 1000, run := true, bpm := 15000 }), (0x01, { })] := by
  decide +kernel

/-- R92: fractions, decimals and lists; a value that is not one is refused. -/
theorem test_assemble_values :
    ((assemble [".rate 1000", "TICK.MIXBUS conn=[1,0,0,0,1], vout=[-1/2, 0.02, 0, 0, 3]"]).map
      fun es => es.map fun e => (e.cmd, e.ports.mixbus)) =
      some [(0x60, { dt := 1 / 1000, sr := 1000, conn := #v[true, false, false, false, true],
                     vout := #v[-1 / 2, 1 / 50, 0, 0, 3] })] ∧
    assemble ["TICK.MIXBUS conn=[2,0,0,0,0]"] = none := by decide +kernel

/-- Program P5, its second line: with no `.rate` the command is legal (log 15); an operand named twice and
a rate of 0 are not read (log 15); a rate may be a fraction. -/
theorem test_assemble_choices :
    ((assemble ["TICK.BITCRUSH in_conn=1, out_conn=1, in=27/10, param=4/5, wet=1"]).map
      fun es => es.map fun e => fxProblem e.ports.fx) = some [none] ∧
    assemble ["TICK.KLOK run=1, run=0"] = none ∧ assemble [".rate 0"] = none ∧
    ((assemble [".rate 1/2", "TICK.KLOK run=0"]).map fun es => es.map fun e => e.ports.klok.dt) =
      some [2] := by decide +kernel

/-- R93, log 15: nested blocks whose braces (characters 123 and 125) share lines with commands. -/
theorem test_assemble_block :
    (assemble ["REPEAT 2 " ++ String.singleton (Char.ofNat 123) ++ " NOP",
        "REPEAT 2 " ++ String.singleton (Char.ofNat 123) ++ "RESET" ++
          String.singleton (Char.ofNat 125) ++ " GWR " ++ String.singleton (Char.ofNat 125)]).map
      (fun es => es.map fun e => e.cmd) = some [0, 1, 1, 2, 0, 1, 1, 2] := by decide +kernel

/-! ### Witnesses: concrete values that meet all hypotheses of a statement together, one theorem per
statement that has hypotheses, and per clause at the boundary of its range -/

/-- Legality of concrete operands, by the checks of `WellFormed` (R88). -/
theorem legal_of_rate {dt sr : Q} (h : rateProblem dt sr = none) : LegalRate dt sr :=
  (rateProblem_none dt sr).mp h

theorem legal_glitch (b : FxOps) (d : FxDraws) (h : fxDrawProblem b d = none) :
    LegalOperands (.tickGlitch b d) := (fxDrawProblem_none b d).mp h

theorem legal_crop (b : FxOps) (d : FxDraws) (h : fxDrawProblem b d = none) :
    LegalOperands (.tickCrop b d) := (fxDrawProblem_none b d).mp h

theorem legal_decimate (b : FxOps) (h : fxProblem b = none) : LegalOperands (.tickDecimate b) :=
  (rateProblem_none b.dt b.sr).mp h

theorem legal_klok (b : KlokOps) (h : klokProblem b = none) : LegalOperands (.tickKlok b) :=
  (klokProblem_none b).mp h

theorem legal_secu (b : SecuOps) (h : secuProblem b = none) : LegalOperands (.tickSecu b) :=
  (secuProblem_none b).mp h

theorem legal_scener (b : ScenerOps) (h : scenerProblem b = none) : LegalOperands (.tickScener b) :=
  (scenerProblem_none b).mp h

theorem mix_runs (s : State) : exec (.tickMixbus mixOps) s = .next (s.setMix (mix mixOps)) :=
  withLegal_next.mpr ⟨by decide +kernel, rfl⟩

theorem witness_CommandMapWords : (0x03 : CmdWord) ∉ mapWords ∧ (0x70 : CmdWord) ∉ mapWords := by decide

theorem witness_DecodeAndEncodeAgree : decode 0x14 restPorts = .ok (.tickVoice4 restPorts.voice) := rfl

theorem witness_ConfigurationFunctionsMeetTheirProperties : (0 : Q) ≤ 1 := by decide +kernel

theorem witness_StepRunsDecodedCommand :
    busy.inputs = edge (.tickMixbus mixOps) :: [] ∧ (edge (.tickMixbus mixOps)).rst = false ∧
    (edge (.tickMixbus mixOps)).cmdValid = true ∧
    decode (edge (.tickMixbus mixOps)).cmd (edge (.tickMixbus mixOps)).ports = .ok (.tickMixbus mixOps) :=
  ⟨rfl, rfl, rfl, rfl⟩

theorem witness_NopAndIdleEdgesChangeNothing :
    State.reset.inputs = [] ∧
    (State.reset.setInputs [{ cmd := 0x01 }]).inputs = { cmd := 0x01 } :: [] ∧
    ({ cmd := 0x01 } : ClockEdge).rst = false ∧ ({ cmd := 0x01 } : ClockEdge).cmdValid = false :=
  ⟨rfl, rfl, rfl, rfl⟩

theorem witness_ReservedWordRefused :
    (State.reset.setInputs [{ cmdValid := true, cmd := 0x03 }]).inputs =
      { cmdValid := true, cmd := 0x03 } :: [] ∧
    ({ cmdValid := true, cmd := 0x03 } : ClockEdge).rst = false ∧
    ({ cmdValid := true, cmd := 0x03 } : ClockEdge).cmdValid = true ∧
    (0x03 : CmdWord) ∉ mapWords ∧ (0xFF : CmdWord) ∉ mapWords := by decide

theorem witness_ResetEdgeAndCommandAreOneEvent :
    ({ busy with inputs := [{ edge .nop with rst := true }] } : State).inputs =
      { edge .nop with rst := true } :: [] ∧ ({ edge .nop with rst := true } : ClockEdge).rst = true :=
  ⟨rfl, rfl⟩

/-- Each side of the equivalence is met: `length_param = 7` is illegal, just below it is legal. -/
theorem witness_IllegalOperandsRefused :
    exec (.tickVoice0 { voiceOps with lengthParam := 7 }) busy =
      .refused (.illegalOperand .lengthParamTooLarge) ∧
    ¬ LegalOperands (.tickVoice0 { voiceOps with lengthParam := 7 }) ∧
    LegalOperands (.tickVoice0 { voiceOps with lengthParam := 699 / 100 }) :=
  ⟨by
    have h : voiceProblem { voiceOps with lengthParam := 7 } = some .lengthParamTooLarge := by
      decide +kernel
    exact (congrArg (withLegal · _) h).trans rfl,
    fun h => absurd h.2 (by decide +kernel), legal_of_rate (by decide +kernel), by decide +kernel⟩

theorem witness_LegalCommandsComplete :
    LegalOperands (.tickGlitch fxOps { }) ∧ GlitchInv busy.glitch :=
  ⟨legal_glitch _ _ (by decide +kernel), busy_inv.glitch⟩

theorem witness_UnitsShareNoState_first :
    Instr.tickMixbus mixOps ≠ .reset ∧ ∃ t, exec (.tickMixbus mixOps) busy = .next t :=
  ⟨by decide, _, mix_runs busy⟩

/-- Two states that differ, but not in the mix bus. -/
theorem witness_UnitsShareNoState_second :
    unitOf (.tickMixbus mixOps) = some .mixbus ∧
    SameUnit busy { State.reset with mixOut := 3 } .mixbus ∧
    busy ≠ { State.reset with mixOut := 3 } ∧ ∃ t, exec (.tickMixbus mixOps) busy = .next t :=
  ⟨rfl, rfl, by decide +kernel, _, mix_runs busy⟩

theorem witness_CommandsOfDifferentUnitsCommute :
    unitOf (.tickKlok klokOps) = some .klok ∧ unitOf (.tickMixbus mixOps) = some .mixbus ∧
    UnitId.klok ≠ .mixbus ∧
    exec (.tickKlok klokOps) busy = .next (busy.setKlok (klokTick klokOps busy.klok)) ∧
    exec (.tickMixbus mixOps) (busy.setKlok (klokTick klokOps busy.klok)) =
      .next ((busy.setKlok (klokTick klokOps busy.klok)).setMix (mix mixOps)) :=
  ⟨rfl, rfl, by decide, withLegal_next.mpr ⟨by decide +kernel, rfl⟩, mix_runs _⟩

theorem witness_StepKeepsInvariant : StateInv busy ∧ ∃ t, step busy = .next t :=
  ⟨busy_inv, _, mix_runs { busy with inputs := [] }⟩

theorem witness_RunsNeverFault : StateInv busy := busy_inv

/-- The four clauses, each at its threshold. -/
theorem witness_EdgeDetectorHysteresis :
    Ed.reset.state = .high ∧ (0 : Q) ≤ 0 ∧ (0 : Q) < 1 / 100 ∧ armedVoice.ed.state = .low ∧
    (1 : Q) ≤ 1 ∧ (99 / 100 : Q) < 1 := by decide +kernel

theorem witness_PulseTriggerExtends :
    (Pg.mk 1).rem < 2 ∧ (2 : Q) ≤ (Pg.mk 2).rem := by decide +kernel

/-- Both outcomes: a pulse of 1/1000 s at 44.1 kHz lasts `ceil(44.1) = 45` ticks. -/
theorem witness_PulseLength :
    (0 : Q) < 1 / 1000 ∧ (0 : Q) < 1 / 44100 ∧ (44 : Int) < ⌈(1 / 1000 : Q) / (1 / 44100)⌉ ∧
    ¬ (45 : Int) < ⌈(1 / 1000 : Q) / (1 / 44100)⌉ := by decide +kernel

theorem witness_RampClearsAndAdvances : InUnit (Rp.mk 1).val ∧ (0 : Q) ≤ 7 * (1 / 100) :=
  ⟨⟨by decide +kernel, by decide +kernel⟩, by decide +kernel⟩

/-- The two branches and the corner. -/
theorem witness_EnvelopeShape :
    InUnit 0 ∧ InUnit 1 ∧ InUnit (1 / 50) ∧ (0 : Q) < 1 / 50 ∧ (1 / 50 : Q) ≤ 1 :=
  ⟨⟨by decide +kernel, by decide +kernel⟩, ⟨by decide +kernel, by decide +kernel⟩,
    ⟨by decide +kernel, by decide +kernel⟩, by decide +kernel, by decide +kernel⟩

/-- The lockout's clauses, and a period on each side of its end (`ceil(10/4) = 3`). -/
theorem witness_LockoutRepeatsEveryQuarterSecond :
    ((0 : Q) = 0 ∨ (5 : Q) ≤ 0) ∧ ((1 : Q) = 0 ∨ (0 : Q) ≤ 0) ∧ ((1 : Q) ≠ 0 ∧ (0 : Q) < 1 / 2) ∧
    (0 : Q) < 10 ∧ (2 : Int) ≤ ⌈(10 / 4 : Q)⌉ ∧ (3 : Int) = ⌈(10 / 4 : Q)⌉ := by decide +kernel

/-- The tie of `round_haz`. -/
theorem witness_RoundHalfAwayFromZero : |(5 / 2 : Q) - (roundHaz (5 / 2) : Q)| = 1 / 2 := by
  decide +kernel

theorem witness_VoiceTickResult :
    0 ≤ voiceOps.dt ∧ 0 < voiceOps.sr ∧ voiceOps.lengthParam < 7 ∧ voiceOps.trigConn = true := by
  decide +kernel

theorem witness_DisconnectedVoiceIsFrozen :
    0 ≤ voiceOps.dt ∧ 0 < voiceOps.sr ∧ voiceOps.lengthParam < 7 ∧
    ({ voiceOps with trigConn := false } : VoiceOps).trigConn = false := by decide +kernel

theorem witness_VoiceRampsRiseAndStayInUnit :
    voiceOps.trigConn = true ∧
    exec (voiceCommand 4 voiceOps) busy =
      .next (busy.setVoice 4 (voiceTick 4 voiceOps busy.voice[(4 : Fin 5)])) ∧
    ¬ VoiceGoes voiceOps busy.voice[(4 : Fin 5)] ∧ InUnit busy.voice[(4 : Fin 5)].amp.val ∧
    InUnit busy.voice[(4 : Fin 5)].osc.val :=
  ⟨rfl, withLegal_next.mpr ⟨by decide +kernel, rfl⟩, by decide +kernel, (busy_inv.voice 4).amp,
    (busy_inv.voice 4).osc⟩

theorem witness_GatePulseLength :
    0 < ({ voiceOps with trigParam := 1 } : VoiceOps).dt ∧
    0 < ({ voiceOps with trigParam := 1 } : VoiceOps).sr ∧
    ({ voiceOps with trigParam := 1 } : VoiceOps).lengthParam < 7 ∧
    ({ voiceOps with trigParam := 1 } : VoiceOps).trigConn = true ∧
    VoiceGoes { voiceOps with trigParam := 1 } State.reset.voice[(0 : Fin 5)] ∧
    State.reset.voice[(0 : Fin 5)].pg.rem ≤ 0 ∧
    voiceOps = { ({ voiceOps with trigParam := 1 } : VoiceOps) with trigParam := 0, trigIn := 0 } ∧
    (49 : Int) < ⌈1 / (7 - voiceOps.lengthParam) / voiceOps.dt⌉ ∧
    ¬ (50 : Int) < ⌈1 / (7 - voiceOps.lengthParam) / voiceOps.dt⌉ := by decide +kernel

theorem witness_SkippedEffectChangesNothing :
    0 ≤ fxOps.dt ∧ 0 < fxOps.sr ∧ ¬ Connected { fxOps with outConn := false } ∧ InDrawRange 0 ∧
    InDrawRange (999 / 1000) :=
  ⟨by decide +kernel, by decide +kernel, by decide, ⟨by decide +kernel, by decide +kernel⟩,
    by decide +kernel, by decide +kernel⟩

theorem witness_BitcrushResult_DistortResult_DecimateResult :
    0 ≤ fxOps.dt ∧ 0 < fxOps.sr ∧ Connected fxOps := by decide +kernel

/-- Both outcomes of R250, with `N = 32`. -/
theorem witness_DecimateResult_branches :
    ⌊effectIntensity { fxOps with param := 1 } * 32⌋ ≤ (31 : Int) + 1 ∧
    ¬ ⌊effectIntensity { fxOps with param := 1 } * 32⌋ ≤ (30 : Int) + 1 := by decide +kernel

theorem witness_BitcrushQuantizes : |(-31 : Q)| < 32 := by decide +kernel

theorem witness_DistortIsBoundedAndOdd : InUnit 1 ∧ (0 : Q) ≤ 3 ∧ (-3 : Q) ≤ 0 :=
  ⟨⟨by decide +kernel, by decide +kernel⟩, by decide +kernel, by decide +kernel⟩

/-- Both clauses: with `q = 1/16`, `N = 2`, no tick and one tick of the hold; with `q = 0`, no tick. -/
theorem witness_DecimateHoldsForNTicks :
    State.reset.decim.cnt = 0 ∧
    (∀ b ∈ [{ fxOps with param := 1 / 16 }, { fxOps with param := 1 / 16, inp := 3 }],
      LegalOperands (.tickDecimate b) ∧ Connected b ∧ effectIntensity b = 1 / 16) ∧
    (1 : Int) < max 1 ⌊(1 / 16 : Q) * 32⌋ ∧ (1 : Int) + 1 = max 1 ⌊(1 / 16 : Q) * 32⌋ ∧
    (0 : Int) + 1 = max 1 ⌊(0 : Q) * 32⌋ := by
  refine ⟨rfl, ?_, by decide +kernel, by decide +kernel, by decide +kernel⟩
  intro b hb
  simp only [List.mem_cons, List.not_mem_nil, or_false] at hb
  rcases hb with rfl | rfl <;>
    exact ⟨legal_decimate _ (by decide +kernel), by decide +kernel, by decide +kernel⟩

theorem witness_GlitchFillTick :
    LegalOperands (.tickGlitch fxOps { }) ∧ Connected fxOps ∧
    ({ Glitch.reset with wr := 23999 } : Glitch).buf.wf = true ∧
    ({ Glitch.reset with wr := 23999 } : Glitch).filling = true ∧ 23999 < 24000 :=
  ⟨legal_glitch _ _ (by decide +kernel), by decide +kernel, rfl, rfl, by decide⟩

/-- The last tick of a window of threshold 5/2 is the one at cursor 2. -/
theorem witness_GlitchReplayTick :
    LegalOperands (.tickGlitch fxOps { }) ∧ Connected fxOps ∧ replaying.buf.wf = true ∧
    replaying.filling = false ∧ ((2 : Nat) : Q) < replaying.thr ∧ 2 < 24000 :=
  ⟨legal_glitch _ _ (by decide +kernel), by decide +kernel, by decide +kernel, rfl, by decide +kernel,
    by decide⟩

/-- Both outcomes, at a draw equal to the intensity and below it. -/
theorem witness_GlitchIdleTick :
    LegalOperands (.tickGlitch { fxOps with param := 1 / 2 } { uStart := 1 / 2 }) ∧
    Connected { fxOps with param := 1 / 2 } ∧ replaying.filling = false ∧
    replaying.thr ≤ ((3 : Nat) : Q) ∧ ¬ (1 / 2 : Q) < effectIntensity { fxOps with param := 1 / 2 } ∧
    (1 / 4 : Q) < effectIntensity { fxOps with param := 1 / 2 } :=
  ⟨legal_glitch _ _ (by decide +kernel), by decide +kernel, rfl, by decide +kernel, by decide +kernel,
    by decide +kernel⟩

/-- One tick is left of the fill phase. -/
theorem witness_GlitchFillRun :
    (∀ o ∈ [(fxOps, ({ } : FxDraws))], LegalOperands (.tickGlitch o.1 o.2) ∧ Connected o.1) ∧
    ({ Glitch.reset with wr := 23999 } : Glitch).buf.wf = true ∧
    ({ Glitch.reset with wr := 23999 } : Glitch).filling = true ∧ 23999 < 24000 ∧
    23999 + [(fxOps, ({ } : FxDraws))].length ≤ 24000 := by
  refine ⟨?_, rfl, rfl, by decide, by decide⟩
  intro o ho
  obtain rfl := List.mem_singleton.mp ho
  exact ⟨legal_glitch _ _ (by decide +kernel), by decide +kernel⟩

/-- The whole window of threshold 5/2, three ticks. -/
theorem witness_GlitchReplayRun :
    (∀ o ∈ List.replicate 3 (fxOps, ({ } : FxDraws)),
      LegalOperands (.tickGlitch o.1 o.2) ∧ Connected o.1) ∧
    GlitchInv busy.glitch ∧ busy.glitch.filling = false ∧ busy.glitch.rd = 0 ∧
    ((List.replicate 3 (fxOps, ({ } : FxDraws))).length : Int) = ⌈busy.glitch.thr⌉ := by
  refine ⟨?_, busy_inv.glitch, rfl, rfl, by decide +kernel⟩
  intro o ho
  obtain rfl := List.eq_of_mem_replicate ho
  exact ⟨legal_glitch _ _ (by decide +kernel), by decide +kernel⟩

/-- Inside a window and after it. -/
theorem witness_CropResult :
    LegalOperands (.tickCrop fxOps { }) ∧ Connected fxOps ∧
    ((busy.crop.cnt : Nat) : Q) < busy.crop.thr ∧ ¬ ((2 : Nat) : Q) < busy.crop.thr :=
  ⟨legal_crop _ _ (by decide +kernel), by decide +kernel, by decide +kernel, by decide +kernel⟩

/-- The whole window of threshold 3/2, two ticks. -/
theorem witness_CropWindowRun :
    (∀ o ∈ List.replicate 2 (fxOps, ({ } : FxDraws)),
      LegalOperands (.tickCrop o.1 o.2) ∧ Connected o.1) ∧ busy.crop.cnt = 0 ∧
    ((List.replicate 2 (fxOps, ({ } : FxDraws))).length : Int) = ⌈busy.crop.thr⌉ := by
  refine ⟨?_, rfl, by decide +kernel⟩
  intro o ho
  obtain rfl := List.eq_of_mem_replicate ho
  exact ⟨legal_crop _ _ (by decide +kernel), by decide +kernel⟩

theorem witness_KlokStoppedTick :
    0 ≤ klokOps.dt ∧ 0 < klokOps.sr ∧ ({ klokOps with run := false } : KlokOps).run = false := by
  decide +kernel

/-- With the period 5/2: the counter at 3/2 does not exceed it, at 2 it does. -/
theorem witness_KlokRunningTick :
    0 ≤ klokOps.dt ∧ 0 < klokOps.sr ∧ klokOps.run = true ∧ 0 < klokOps.bpm ∧
    ¬ MasterTick klokOps { Klok.reset with cnt := 3 / 2 } ∧
    MasterTick klokOps { Klok.reset with cnt := 2 } := by decide +kernel

/-- With `P = 2` and 1 ms a tick: the pulse clauses on the master ticks 3 and 5 and between them. -/
theorem witness_MasterPulseEveryPeriod :
    LegalOperands (.tickKlok { klokOps with bpm := 15000 }) ∧
    ({ klokOps with bpm := 15000 } : KlokOps).run = true ∧ 1 ≤ 2 ∧
    tickPeriod { klokOps with bpm := 15000 } = ((2 : Nat) : Q) ∧ State.reset.klok.cnt = 0 ∧
    State.reset.klok.step = 0 ∧ State.reset.klok.pgClk.rem ≤ 0 ∧
    (2 ≤ 3 - 1 ∧ (((3 - 1) % 2 : Nat) : Q) * klokOps.dt < 1 / 1000) ∧
    ¬ (((4 - 1) % 2 : Nat) : Q) * klokOps.dt < 1 / 1000 ∧
    (2 ≤ 5 - 1 ∧ (((5 - 1) % 2 : Nat) : Q) * klokOps.dt < 1 / 1000) :=
  ⟨legal_klok _ (by decide +kernel), rfl, by decide, by decide +kernel, rfl, rfl, by decide +kernel,
    by decide +kernel, by decide +kernel, by decide +kernel⟩

theorem witness_GridWriteWritesOneCell :
    ({ s := 7, c := 4, level := 1 } : GwrOps).s ≤ 7 ∧ ({ s := 7, c := 4, level := 1 } : GwrOps).c ≤ 4 := by
  decide

/-- Both edge clauses and both substitution clauses, `u_prob` at the probability and below it. -/
theorem witness_SecuTickResult :
    LegalOperands (.tickSecu { secuOps with trigIn := 1, prob := 1 / 2, uProb := 1 / 2 }) ∧
    ¬ Edge Ed.reset 1 ∧ Edge ⟨.low⟩ 1 ∧ ¬ (1 / 2 : Q) < clamp01 (1 / 2 + 0) ∧
    (0 : Q) < clamp01 (1 / 2 + 0) :=
  ⟨legal_secu _ (by decide +kernel), by decide +kernel, by decide +kernel, by decide +kernel,
    by decide +kernel⟩

theorem witness_NoSubstitutionWithoutProbability :
    (∀ o ∈ [(secuOps, { secuOps with trigIn := 5 })],
      LegalOperands (.tickSecu o.1) ∧ LegalOperands (.tickSecu o.2) ∧ o.1.trigIn ≤ 0 ∧
      1 ≤ o.2.trigIn ∧ o.1.rstIn < 1 ∧ o.2.rstIn < 1 ∧ o.2.prob + o.2.probCv ≤ 0 ∧ o.2.nsteps = 4) ∧
    [(secuOps, { secuOps with trigIn := 5 })] ≠ [] ∧ State.reset.secu.step.val < 4 := by
  refine ⟨?_, by simp, by decide⟩
  intro o ho
  obtain rfl := List.mem_singleton.mp ho
  exact ⟨legal_secu _ (by decide +kernel), legal_secu _ (by decide +kernel), by decide +kernel⟩

/-- With the lengths 2 and 3: count 2 is scene 0's last, 3 scene 1's first, 9 is above the total. -/
theorem witness_SceneScanSelects :
    1 ≤ 2 ∧ 1 ≤ scenerOps.nscenes ∧ scenerOps.nscenes ≤ 6 ∧ (sceneScan scenerOps 2 0).1 = 0 ∧
    (sceneScan scenerOps 3 0).1 = 1 ∧ sceneScan scenerOps 9 0 = (1, 5) := by decide +kernel

/-- No edge, and an edge in the finished state. -/
theorem witness_ScenerTickWithoutEdge :
    LegalOperands (.tickScener { scenerOps with trigIn := 99 / 100 }) ∧
    ¬ SceneEdge { scenerOps with trigIn := 99 / 100 } scenerMid ∧
    ¬ SceneEdge { scenerOps with trigIn := 5 } { scenerMid with finished := true } :=
  ⟨legal_scener _ (by decide +kernel), by decide +kernel, by decide +kernel⟩

/-- The edge that enters scene 1. -/
theorem witness_ScenerTickWithEdge :
    LegalOperands (.tickScener { scenerOps with trigIn := 1 }) ∧
    SceneEdge { scenerOps with trigIn := 1 } scenerMid ∧
    3 = stepsAfterReset { scenerOps with trigIn := 1 } scenerMid + 1 ∧
    5 = lengthsBefore { scenerOps with trigIn := 1 } 2 ∧
    Selected { scenerOps with trigIn := 1 } 3 1 ∧
    0 = (if (1 : Fin 6) ≠ curAfterReset { scenerOps with trigIn := 1 } scenerMid then 0
      else scenerMid.sceneSteps + 1) ∧
    false = decide (({ scenerOps with trigIn := 1 } : ScenerOps).loop = false ∧ 5 ≤ 3) := by
  refine ⟨legal_scener _ (by decide +kernel), by decide +kernel, by decide +kernel, by decide +kernel,
    ⟨?_, ?_, .inl ?_⟩, by decide +kernel, by decide +kernel⟩
  · decide
  · decide +kernel
  · decide +kernel

theorem witness_FinishedStateIsTerminal :
    (∀ b ∈ [{ scenerOps with trigIn := 5, rstIn := 99 / 100, rstBtn := 9 / 1000 }],
      LegalOperands (.tickScener b) ∧ b.rstBtn < 1 / 100 ∧ b.rstIn < 1) ∧
    ({ scenerMid with finished := true } : Scener).finished = true := by
  refine ⟨?_, rfl⟩
  intro b hb
  obtain rfl := List.mem_singleton.mp hb
  exact ⟨legal_scener _ (by decide +kernel), by decide +kernel, by decide +kernel⟩

/-- Inputs at both ends of the range. -/
theorem witness_SceneOutputsStayInRange :
    InUnit busy.scener.ramp.val ∧
    (∀ k : Fin 30, -10 ≤ ({ scenerOps with
        inp := Vector.ofFn fun i => if i.val < 15 then -10 else 10 } : ScenerOps).inp[k] ∧
      ({ scenerOps with
        inp := Vector.ofFn fun i => if i.val < 15 then -10 else 10 } : ScenerOps).inp[k] ≤ 10) ∧
    ∃ t, exec (.tickScener { scenerOps with
      inp := Vector.ofFn fun i => if i.val < 15 then -10 else 10 }) busy = .next t :=
  ⟨busy_inv.scener.ramp, by decide +kernel, _, withLegal_next.mpr ⟨by decide +kernel, rfl⟩⟩

theorem witness_MixbusResult :
    0 ≤ mixOps.dt ∧ 0 < mixOps.sr ∧
    ∀ v : Fin 5, ({ mixOps with conn := Vector.replicate 5 false } : MixOps).conn[v] = false := by
  decide +kernel

/-- A cursor at its largest value. -/
theorem witness_StateEncodingsFit : GlitchInv busy.glitch ∧ busy.glitch.wr = 24000 :=
  ⟨busy_inv.glitch, rfl⟩

/-- A command of no unit meets the premise of every clause. -/
theorem witness_OutputsHoldBetweenTicks :
    Instr.nop ≠ .reset ∧ exec .nop busy = .next busy ∧
    (∀ v : Fin 5, unitOf .nop ≠ some (.voice v)) ∧
    (∀ e : Fin 5, unitOf .nop ≠ some (effectUnit e)) ∧ unitOf (.tickBitcrush fxOps) ≠ some (effectUnit 3) ∧
    unitOf .nop ≠ some .klok ∧ (∀ b, Instr.nop ≠ .tickSecu b) ∧ unitOf .nop ≠ some .scener ∧
    unitOf .nop ≠ some .mixbus := by
  refine ⟨by decide, rfl, by decide, by decide, by decide, by decide, by simp, by decide, by decide⟩

end Sys2Proof.Tests
end

section
/-!
PROOFS. The family 00_scope: `round_haz` (spec/00_scope R12), and that no rule of one unit reads or
writes the state of another (R3). For R3, `LocalTo u run` names the property; it is shown of each
update of one unit, carried through the legality guard and the effect wrapper, and so holds of
`exec` for every command that has a unit.
-/

namespace Sys2Proof.Proofs

open Sys2Proof Sys2Proof.Machine Sys2Proof.Safety

/-! ### round_haz -/

theorem roundHaz_of_nonneg {x : Q} (h : 0 ≤ x) : roundHaz x = ⌊x + 1 / 2⌋ := by
  rcases h.eq_or_lt with rfl | hx
  · norm_num [roundHaz, signOf]
  · simp [roundHaz, signOf, not_lt.mpr h, hx.ne', abs_of_pos hx]

theorem roundHaz_neg (x : Q) : roundHaz (-x) = -roundHaz x := by
  have hsign : signOf (-x) = -signOf x := by
    rcases lt_trichotomy x 0 with h | rfl | h
    · simp [signOf, h, h.ne, h.le]
    · simp [signOf]
    · simp [signOf, h, h.ne', h.le]
  simp [roundHaz, hsign]

/-- A nonnegative `x` lies in the half-open interval of length 1 around `round_haz(x)` that holds its
lower end, so a tie is rounded up. -/
theorem roundHaz_bounds {x : Q} (h : 0 ≤ x) :
    (roundHaz x : Q) - 1 / 2 ≤ x ∧ x < (roundHaz x : Q) + 1 / 2 := by
  rw [roundHaz_of_nonneg h]
  constructor
  · linarith [Int.floor_le (x + 1 / 2)]
  · linarith [Int.lt_floor_add_one (x + 1 / 2)]

theorem roundHaz_nearest_of_nonneg {x : Q} (h : 0 ≤ x) :
    |x - (roundHaz x : Q)| ≤ 1 / 2 ∧
      (|x - (roundHaz x : Q)| = 1 / 2 → |x| < |(roundHaz x : Q)|) := by
  obtain ⟨hlo, hhi⟩ := roundHaz_bounds h
  refine ⟨abs_le.mpr ⟨by linarith, by linarith⟩, fun htie => ?_⟩
  have hup : (roundHaz x : Q) = x + 1 / 2 := by
    rcases abs_eq (by norm_num) |>.mp htie with e | e <;> linarith
  rw [hup, abs_of_nonneg h, abs_of_nonneg (by linarith)]
  linarith

/-- Settles O25: for `0 ≤ x` from the interval around `round_haz(x)`, for `x < 0` because `round_haz`
is odd. -/
theorem roundHalfAwayFromZero : Obligations.RoundHalfAwayFromZero := by
  intro x
  rcases le_total 0 x with h | h
  · exact roundHaz_nearest_of_nonneg h
  · have hneg := roundHaz_nearest_of_nonneg (neg_nonneg.mpr h)
    have hdist : -x - -(roundHaz x : Q) = -(x - (roundHaz x : Q)) := by ring
    simpa only [roundHaz_neg, Int.cast_neg, hdist, abs_neg] using hneg

/-! ### What an update of one unit leaves of the others -/

theorem sameUnit_refl (s : State) (u : UnitId) : SameUnit s s u := by
  cases u <;> simp [SameUnit]

theorem sameUnit_trans {s t r : State} {u : UnitId} (h : SameUnit s t u) (h' : SameUnit t r u) :
    SameUnit s r u := by
  cases u <;> simp_all [SameUnit]

theorem sameUnit_setVoice (s : State) {v : Fin 5} (x : Voice) {u : UnitId} (h : u ≠ .voice v) :
    SameUnit s (s.setVoice v x) u := by
  cases u with
  | voice w =>
    have hw : w ≠ v := fun e => h (congrArg UnitId.voice e)
    exact (State.setVoice_get s v w x).trans (if_neg hw)
  | _ => simp [SameUnit]

theorem sameUnit_setGlitch (s : State) (g : Glitch) {u : UnitId} (h : u ≠ .glitch) :
    SameUnit s (s.setGlitch g) u := by
  cases u with
  | glitch => exact absurd rfl h
  | _ => simp [SameUnit]

theorem sameUnit_setCrop (s : State) (c : Crop) {u : UnitId} (h : u ≠ .crop) :
    SameUnit s (s.setCrop c) u := by
  cases u with
  | crop => exact absurd rfl h
  | _ => simp [SameUnit]

theorem sameUnit_setDecim (s : State) (d : Decim) {u : UnitId} (h : u ≠ .decimate) :
    SameUnit s (s.setDecim d) u := by
  cases u with
  | decimate => exact absurd rfl h
  | _ => simp [SameUnit]

theorem sameUnit_setKlok (s : State) (k : Klok) {u : UnitId} (h : u ≠ .klok) :
    SameUnit s (s.setKlok k) u := by
  cases u with
  | klok => exact absurd rfl h
  | _ => simp [SameUnit]

theorem sameUnit_setSecu (s : State) (q : Secu) {u : UnitId} (h : u ≠ .secu) :
    SameUnit s (s.setSecu q) u := by
  cases u with
  | secu => exact absurd rfl h
  | _ => simp [SameUnit]

theorem sameUnit_setScener (s : State) (c : Scener) {u : UnitId} (h : u ≠ .scener) :
    SameUnit s (s.setScener c) u := by
  cases u with
  | scener => exact absurd rfl h
  | _ => simp [SameUnit]

theorem sameUnit_setMix (s : State) (x : Q) {u : UnitId} (h : u ≠ .mixbus) :
    SameUnit s (s.setMix x) u := by
  cases u with
  | mixbus => exact absurd rfl h
  | _ => simp [SameUnit]

/-- Effect outputs other than the one written keep their value. -/
theorem setFxOut_get_of_unit_ne (s : State) {e i : Fin 5} (x : Q) (h : effectUnit i ≠ effectUnit e) :
    (s.setFxOut e x).fxOut[i] = s.fxOut[i] :=
  (State.setFxOut_get s e i x).trans (if_neg fun hie => h (congrArg effectUnit hie))

theorem sameUnit_setFxOut (s : State) {e : Fin 5} (x : Q) {u : UnitId} (h : u ≠ effectUnit e) :
    SameUnit s (s.setFxOut e x) u := by
  cases u with
  | bitcrush => exact setFxOut_get_of_unit_ne (i := 0) s x h
  | decimate => exact ⟨rfl, setFxOut_get_of_unit_ne (i := 1) s x h⟩
  | distort => exact setFxOut_get_of_unit_ne (i := 2) s x h
  | glitch => exact ⟨fun _ => rfl, rfl, setFxOut_get_of_unit_ne (i := 3) s x h⟩
  | crop => exact ⟨rfl, setFxOut_get_of_unit_ne (i := 4) s x h⟩
  | _ => simp [SameUnit]

/-- The same output written in two states keeps equal what was equal. -/
theorem sameUnit_setFxOut_both {s t : State} {u : UnitId} (h : SameUnit s t u) (e : Fin 5) (x : Q) :
    SameUnit (s.setFxOut e x) (t.setFxOut e x) u := by
  have hout {i : Fin 5} (hi : t.fxOut[i] = s.fxOut[i]) :
      (t.setFxOut e x).fxOut[i] = (s.setFxOut e x).fxOut[i] := by
    rw [State.setFxOut_get, State.setFxOut_get, hi]
  cases u with
  | bitcrush | distort => exact hout h
  | decimate | crop => exact h.imp id hout
  | glitch =>
    obtain ⟨hread, hglitch, hfx⟩ := h
    exact ⟨hread, hglitch, hout hfx⟩
  | _ => exact h

/-! ### Locality -/

/-- R3, of a meaning: where it completes it leaves every unit but `u` as it was, and it completes, with
the same unit `u`, in every state that has the same unit `u`. -/
structure LocalTo (u : UnitId) (run : State → StepOutcome) : Prop where
  frame : ∀ {s t : State}, run s = .next t → ∀ {w : UnitId}, w ≠ u → SameUnit s t w
  depends : ∀ {s s' t : State}, SameUnit s s' u → run s = .next t →
    ∃ t' : State, run s' = .next t' ∧ SameUnit t t' u

theorem LocalTo.of_update {u : UnitId} {f : State → State}
    (frame : ∀ s {w : UnitId}, w ≠ u → SameUnit s (f s) w)
    (depends : ∀ {s s' : State}, SameUnit s s' u → SameUnit (f s) (f s') u) :
    LocalTo u fun s => .next (f s) where
  frame h _ hw := by cases h; exact frame _ hw
  depends hs h := by cases h; exact ⟨_, rfl, depends hs⟩

theorem LocalTo.withLegal {u : UnitId} {run : State → StepOutcome} (h : LocalTo u run)
    (p : Option OperandProblem) : LocalTo u fun s => Machine.withLegal p (run s) where
  frame hn _ hw := h.frame (withLegal_next.mp hn).2 hw
  depends hs hn := by
    obtain ⟨hp, hrun⟩ := withLegal_next.mp hn
    obtain ⟨t', hrun', ht⟩ := h.depends hs hrun
    exact ⟨t', withLegal_next.mpr ⟨hp, hrun'⟩, ht⟩

theorem localTo_setVoice (v : Fin 5) (f : Voice → Voice) :
    LocalTo (.voice v) fun s => .next (s.setVoice v (f s.voice[v])) :=
  .of_update (fun s _ => sameUnit_setVoice s _) fun {s s'} (h : s'.voice[v] = s.voice[v]) => by
    rw [SameUnit, State.setVoice_get, State.setVoice_get, h]

theorem localTo_setKlok (f : Klok → Klok) : LocalTo .klok fun s => .next (s.setKlok (f s.klok)) :=
  .of_update (fun s _ => sameUnit_setKlok s _) fun h => congrArg f h

theorem localTo_setSecu (f : Secu → Secu) : LocalTo .secu fun s => .next (s.setSecu (f s.secu)) :=
  .of_update (fun s _ => sameUnit_setSecu s _) fun h => congrArg f h

theorem localTo_setScener (f : Scener → Scener) :
    LocalTo .scener fun s => .next (s.setScener (f s.scener)) :=
  .of_update (fun s _ => sameUnit_setScener s _) fun h => congrArg f h

theorem localTo_setMix (x : Q) : LocalTo .mixbus fun s => .next (s.setMix x) :=
  .of_update (fun s _ => sameUnit_setMix s x) fun _ => rfl

/-! ### Locality of the effects -/

/-- R140, R141, R143: the two ways an effect command completes. -/
theorem fxWrapper_next {e : Fin 5} {b : FxOps} {effect : Q → Except Fault (State × Q)} {s r : State} :
    fxWrapper e b effect s = .next r ↔
      ((b.inConn = false ∨ b.outConn = false) ∧ r = s) ∨
      (b.inConn = true ∧ b.outConn = true ∧ ∃ t fx, effect (intensity b) = .ok (t, fx) ∧
        r = t.setFxOut e (xfade b.inp fx b.wet)) := by
  rcases fxWrapper_cases e b effect s with ⟨hc, h⟩ | ⟨hi, ho, ⟨f, he, h⟩ | ⟨t, fx, he, h⟩⟩
  · rcases hc with hc | hc <;> simpa [h, hc] using eq_comm
  · simp [h, hi, ho, he]
  · simpa [h, hi, ho, he] using eq_comm

/-- R3, of the state and the sample an effect answers to its wrapper, at one intensity. -/
structure LocalEffect (e : Fin 5) (effect : State → Except Fault (State × Q)) : Prop where
  frame : ∀ {s t : State} {fx : Q}, effect s = .ok (t, fx) →
    ∀ {w : UnitId}, w ≠ effectUnit e → SameUnit s t w
  depends : ∀ {s s' t : State} {fx : Q}, SameUnit s s' (effectUnit e) → effect s = .ok (t, fx) →
    ∃ t' : State, effect s' = .ok (t', fx) ∧ SameUnit t t' (effectUnit e)

theorem LocalTo.fxWrapper {e : Fin 5} {b : FxOps} {effect : State → Q → Except Fault (State × Q)}
    (h : LocalEffect e fun s => effect s (intensity b)) :
    LocalTo (effectUnit e) fun s => Machine.fxWrapper e b (effect s) s where
  frame {s _} hn _ hw := by
    obtain ⟨-, rfl⟩ | ⟨-, -, t, fx, he, rfl⟩ := fxWrapper_next.mp hn
    · exact sameUnit_refl _ _
    · exact sameUnit_trans (h.frame he hw) (sameUnit_setFxOut t _ hw)
  depends {s s' _} hs hn := by
    obtain ⟨hc, rfl⟩ | ⟨hi, ho, t, fx, he, rfl⟩ := fxWrapper_next.mp hn
    · exact ⟨s', fxWrapper_next.mpr (.inl ⟨hc, rfl⟩), hs⟩
    · obtain ⟨t', he', ht⟩ := h.depends hs he
      exact ⟨_, fxWrapper_next.mpr (.inr ⟨hi, ho, t', fx, he', rfl⟩), sameUnit_setFxOut_both ht e _⟩

/-- An effect that has no state of its own. -/
theorem localEffect_stateless (e : Fin 5) (y : Q) : LocalEffect e fun s => .ok (s, y) where
  frame h _ _ := by cases h; exact sameUnit_refl _ _
  depends {_ s' _ _} hs h := by cases h; exact ⟨s', rfl, hs⟩

theorem localEffect_decimate (f : Decim → Decim) :
    LocalEffect 1 fun s => .ok (s.setDecim (f s.decim), (f s.decim).held) where
  frame {s _ _} h _ hw := by cases h; exact sameUnit_setDecim s _ hw
  depends {s s' _ _} hs h := by
    cases h
    obtain ⟨hd, hout⟩ : s'.decim = s.decim ∧ s'.fxOut[(1 : Fin 5)] = s.fxOut[(1 : Fin 5)] := hs
    exact ⟨s'.setDecim (f s.decim), by rw [hd], rfl, hout⟩

theorem localEffect_crop (f : Crop → Crop × Q) :
    LocalEffect 4 fun s => .ok (s.setCrop (f s.crop).1, (f s.crop).2) where
  frame {s _ _} h _ hw := by cases h; exact sameUnit_setCrop s _ hw
  depends {s s' _ _} hs h := by
    cases h
    obtain ⟨hc, hout⟩ : s'.crop = s.crop ∧ s'.fxOut[(4 : Fin 5)] = s.fxOut[(4 : Fin 5)] := hs
    exact ⟨s'.setCrop (f s.crop).1, by rw [hc], rfl, hout⟩

theorem localTo_execTickGlitch (b : FxOps) (d : FxDraws) : LocalTo .glitch (execTickGlitch b d) := by
  refine .withLegal (.fxWrapper (e := 3) ⟨?_, ?_⟩) _
  · intro s t fx h w hw
    rcases hg : glitchEffect b.inp (intensity b) d s.glitch with f | ⟨g, y⟩ <;> simp only [hg] at h
    · cases h
    · cases h
      exact sameUnit_setGlitch s g hw
  · intro s s' t fx hs h
    obtain ⟨-, hglitch, hout⟩ : SameUnit s s' .glitch := hs
    rcases hg : glitchEffect b.inp (intensity b) d s.glitch with f | ⟨g, y⟩ <;> simp only [hg] at h
    · cases h
    · cases h
      exact ⟨s'.setGlitch g, by simp only [hglitch, hg], fun _ => rfl, rfl, hout⟩

/-! ### Locality of the commands -/

/-- R3: every command that has a unit is local to it. -/
theorem exec_localTo {i : Instr} {u : UnitId} (h : unitOf i = some u) : LocalTo u (exec i) := by
  cases i <;> cases h
  case gwr b => exact (localTo_setSecu _).withLegal _
  case tickVoice0 b => exact (localTo_setVoice 0 _).withLegal _
  case tickVoice1 b => exact (localTo_setVoice 1 _).withLegal _
  case tickVoice2 b => exact (localTo_setVoice 2 _).withLegal _
  case tickVoice3 b => exact (localTo_setVoice 3 _).withLegal _
  case tickVoice4 b => exact (localTo_setVoice 4 _).withLegal _
  case tickBitcrush b => exact .withLegal (.fxWrapper (e := 0) (localEffect_stateless 0 _)) _
  case tickDecimate b =>
    exact .withLegal (.fxWrapper (e := 1) (localEffect_decimate (decimate b.inp (intensity b)))) _
  case tickDistort b => exact .withLegal (.fxWrapper (e := 2) (localEffect_stateless 2 _)) _
  case tickGlitch b d => exact localTo_execTickGlitch b d
  case tickCrop b d =>
    exact .withLegal (.fxWrapper (e := 4) (localEffect_crop (cropEffect b.inp (intensity b) b.sr d))) _
  case tickKlok b => exact (localTo_setKlok _).withLegal _
  case tickSecu b => exact (localTo_setSecu _).withLegal _
  case tickScener b => exact (localTo_setScener _).withLegal _
  case tickMixbus b => exact (localTo_setMix _).withLegal _

theorem eq_nop_of_unitOf_eq_none {i : Instr} (h : unitOf i = none) (hr : i ≠ .reset) : i = .nop := by
  cases i with
  | nop => rfl
  | reset => exact absurd rfl hr
  | _ => cases h

/-- Settles O11: a command without a unit is `NOP`, which changes nothing, and every other command is
local to its unit. -/
theorem unitsShareNoState : Obligations.UnitsShareNoState := by
  refine ⟨fun i s t hr h w hw => ?_, fun i u s s' t hu hs h => (exec_localTo hu).depends hs h⟩
  rcases hu : unitOf i with _ | u
  · obtain rfl := eq_nop_of_unitOf_eq_none hu hr
    cases h
    exact sameUnit_refl _ _
  · exact (exec_localTo hu).frame h fun e => hw (by rw [hu, e])

end Sys2Proof.Proofs
end

section
/-!
PROOFS. The family 10_state: the state after reset meets the invariant of the reachable states
(spec/10_state R40, spec/20_memory R73), one lemma per unit. Of every level, light and counter the
reset value is 0. The buffer is in the fill phase, the clock divider is armed and the scene crossfader
is starting, so the invariant's clauses about these three phases apply and are shown.
-/

namespace Sys2Proof.Proofs

open Sys2Proof Sys2Proof.Machine Sys2Proof.Safety

theorem inUnit_zero : InUnit 0 := ⟨le_rfl, zero_le_one⟩

/-- R26, R291: every voice is at its reset value after reset. -/
theorem reset_voice_get (v : Fin 5) : State.reset.voice[v] = Voice.reset :=
  Vector.getElem_replicate v.isLt

theorem voiceInv_reset (v : Fin 5) : VoiceInv v Voice.reset where
  osc := inUnit_zero
  amp := inUnit_zero
  ampRate := le_rfl
  lock := le_rfl
  oOsc := inUnit_zero
  oAmp := inUnit_zero
  oEnv := inUnit_zero
  oEnvB := inUnit_zero
  oLight := inUnit_zero
  oGate := .inl rfl
  noSecondEnv _ := rfl

/-- R29, R73: the empty buffer at address 0 of its fill phase. -/
theorem glitchInv_reset : GlitchInv Glitch.reset where
  wf := reset_memory_wf
  fillPhase _ := ⟨by decide, rfl, rfl, fun _ _ => rfl⟩
  fullPhase h := absurd h (by decide)
  thrNonneg := le_rfl
  thrBelowCap := by simp [Glitch.reset, CAP]
  rdBound := by simp [Glitch.reset]

theorem cropInv_reset : CropInv Crop.reset where
  thrNonneg := le_rfl
  cntBound := by simp [Crop.reset]

/-- R32, R181: the clock divider is armed, with its counters at 0. -/
theorem klokInv_reset : KlokInv Klok.reset where
  cnt := le_rfl
  period := le_rfl
  stopped _ := ⟨rfl, rfl, rfl⟩
  oClk := .inl rfl
  oRst := .inl rfl
  oDiv i := .inl (Vector.getElem_replicate i.isLt)
  oLight := .inl rfl

theorem secuInv_reset : SecuInv Secu.reset where
  randLock := le_rfl
  oLight i := .inl (Vector.getElem_replicate i.isLt)

/-- R36, R221: the scene crossfader is starting, with its counters at 0. -/
theorem scenerInv_reset : ScenerInv Scener.reset where
  ramp := inUnit_zero
  startup _ := ⟨rfl, rfl, rfl, rfl, rfl⟩
  oAlert j := .inl (Vector.getElem_replicate j.isLt)
  oAlight j := .inl (Vector.getElem_replicate j.isLt)

/-- Settles O14, unit by unit. -/
theorem resetMeetsInvariant : Obligations.ResetMeetsInvariant where
  voice v := by rw [reset_voice_get]; exact voiceInv_reset v
  glitch := glitchInv_reset
  crop := cropInv_reset
  decim := by decide
  klok := klokInv_reset
  secu := secuInv_reset
  scener := scenerInv_reset

end Sys2Proof.Proofs
end

section
/-!
PROOFS. The family 20_memory: every step keeps the invariant of the reachable states (spec/20_memory
R73). One lemma per unit says that the unit's tick keeps the unit's invariant; one lemma per state
update carries that to the whole state; `KeepsInv` carries it through the legality guard and the
effect wrapper to `exec`, and the step over a clock edge follows.
-/

namespace Sys2Proof.Proofs

open Sys2Proof Sys2Proof.Machine Sys2Proof.Safety

/-! ### Facts shared by several units -/

/-- R165, R174: a cursor below its threshold is, counted up, not above the threshold's ceiling. -/
theorem succ_le_ceil {n : Nat} {x : Q} (h : (n : Q) < x) : ((n + 1 : Nat) : Int) ≤ ⌈x⌉ := by
  have : (n : Int) < ⌈x⌉ := Int.lt_ceil.mpr (by exact_mod_cast h)
  omega

/-- R185, R231: a pulse drives its output to one of two levels. -/
theorem pulse_output_level (c : Pg) (dt : Q) :
    V_GATE * (c.proc dt).2 = 0 ∨ V_GATE * (c.proc dt).2 = V_GATE := by
  rcases Pg.proc_level c dt with h | h <;> simp [h]

theorem intensity_unit (b : FxOps) : InUnit (intensity b) := quantity_unit _ _ _ _

/-! ### The voices -/

theorem gateRatio_pos {b : VoiceOps} (h : b.lengthParam < 7) : 0 < gateRatio b := sub_pos.mpr h

theorem secondEnv_unit (v : Fin 5) (r : Q) : InUnit (secondEnv v r) := by
  rw [secondEnv]
  split_ifs
  · exact env_unit _ _
  · exact inUnit_zero

theorem voiceInv_disconnected {v : Fin 5} {x : Voice} (h : VoiceInv v x) :
    VoiceInv v { x with oLight := 0 } :=
  { h with oLight := inUnit_zero }

/-- R121 to R126: of the voice before the tick only the lockout has to be in range. -/
theorem voiceInv_connected (v : Fin 5) {b : VoiceOps} {x : Voice} (hsr : 0 ≤ b.sr)
    (hlen : b.lengthParam < 7) (hlock : 0 ≤ x.lock) :
    VoiceInv v (voiceOutputs v b (voiceAdvance b (voiceTrigger b x))) where
  osc := Rp.adv_unit _ _ _
  amp := Rp.adv_unit _ _ _
  ampRate := (gateRatio_pos hlen).le
  lock := lockout_nonneg _ _ hlock hsr
  oOsc := Rp.adv_unit _ _ _
  oAmp := Rp.adv_unit _ _ _
  oEnv := env_unit _ _
  oEnvB := secondEnv_unit _ _
  oLight := env_unit _ _
  oGate := Pg.proc_level _ _
  noSecondEnv hv := if_neg hv

theorem voiceInv_tick {v : Fin 5} {b : VoiceOps} {x : Voice} (hsr : 0 ≤ b.sr)
    (hlen : b.lengthParam < 7) (h : VoiceInv v x) : VoiceInv v (voiceTick v b x) := by
  rw [voiceTick]
  split_ifs
  · exact voiceInv_connected v hsr hlen h.lock
  · exact voiceInv_disconnected h

/-! ### The glitch buffer -/

/-- R163, R165: a window is shorter than the buffer. -/
theorem glitchThreshold_bounds {q u : Q} (hq : InUnit q) (hu : InDrawRange u) :
    0 ≤ glitchThreshold q u ∧ glitchThreshold q u < (CAP : Q) := by
  obtain ⟨hq0, hq1⟩ := hq
  obtain ⟨hu0, hu1⟩ := hu
  have hcap : (CAP : Q) = 24000 := by norm_num [CAP]
  have hlen : 0 ≤ (CAP : Q) - q * GL_SHRINK * (CAP : Q) ∧
      (CAP : Q) - q * GL_SHRINK * (CAP : Q) ≤ (CAP : Q) := by
    rw [hcap, GL_SHRINK]
    constructor <;> linarith
  refine ⟨mul_nonneg hu0 hlen.1, ?_⟩
  calc glitchThreshold q u ≤ u * (CAP : Q) := mul_le_mul_of_nonneg_left hlen.2 hu0
    _ < (CAP : Q) := by rw [hcap]; linarith

/-- R161: the element filled is the first that nothing has written, so those after it still read as
unwritten; the phase ends when the last element is filled. -/
theorem glitchInv_fill {g : Glitch} (h : GlitchInv g) (hf : g.filling = true) (inp : Q) :
    GlitchInv { g with buf := g.buf.write g.wr inp, wr := g.wr + 1,
                       filling := if g.wr + 1 = CAP then false else true } := by
  obtain ⟨hwr, hrd, hthr, hread⟩ := h.fillPhase hf
  refine { h with wf := Memory.wf_write h.wf hwr inp, fillPhase := fun hfill => ?_,
                  fullPhase := fun hfull => ?_ }
  · have hne : g.wr + 1 ≠ CAP := by simpa using hfill
    have hwr' : g.wr + 1 < CAP := by omega
    refine ⟨hwr', hrd, hthr, fun a (ha : g.wr + 1 ≤ a) => ?_⟩
    rw [Memory.read_write h.wf, if_neg (by omega)]
    exact hread a (by omega)
  · simpa using hfull

/-- R162: a replayed element is written anew. -/
theorem glitchInv_replay {g : Glitch} (h : GlitchInv g) (hf : g.filling = false)
    (hthr : (g.rd : Q) < g.thr) (hrd : g.rd < CAP) (inp : Q) :
    GlitchInv { g with buf := g.buf.write g.rd inp, rd := g.rd + 1 } :=
  { h with
    wf := Memory.wf_write h.wf hrd inp
    fillPhase := fun hfill => absurd hfill (by simp [hf])
    rdBound := succ_le_ceil hthr }

/-- R163: a window starts. -/
theorem glitchInv_window {g : Glitch} (h : GlitchInv g) (hf : g.filling = false) {q u : Q}
    (hq : InUnit q) (hu : InDrawRange u) :
    GlitchInv { g with thr := glitchThreshold q u, rd := 0 } := by
  obtain ⟨hnonneg, hbelow⟩ := glitchThreshold_bounds hq hu
  exact { h with
    fillPhase := fun hfill => absurd hfill (by simp [hf])
    thrNonneg := hnonneg
    thrBelowCap := hbelow
    rdBound := Int.ceil_nonneg hnonneg }

theorem glitchInv_effect {g g' : Glitch} {inp q y : Q} {d : FxDraws} (h : GlitchInv g)
    (hq : InUnit q) (hd : InDrawRange d.uLen) (he : glitchEffect inp q d g = .ok (g', y)) :
    GlitchInv g' := by
  rcases glitchEffect_cases inp q d g with
      ⟨hf, -, e⟩ | ⟨-, -, e⟩ | ⟨hf, hthr, hrd, e⟩ | ⟨-, -, -, e⟩ | ⟨hf, -, -, e⟩ | ⟨-, -, -, e⟩ <;>
    rw [e] at he <;> cases he
  · exact glitchInv_fill h hf inp
  · exact glitchInv_replay h hf hthr hrd inp
  · exact glitchInv_window h hf hq hd
  · exact h

/-! ### The crop and the decimator -/

theorem cropInv_effect {c : Crop} {inp q sr : Q} {d : FxDraws} (h : CropInv c) (hsr : 0 ≤ sr)
    (hd : 0 ≤ d.uLen) : CropInv (cropEffect inp q sr d c).1 := by
  rw [cropEffect]
  split_ifs with hthr
  · exact { h with cntBound := succ_le_ceil hthr }
  · have hnonneg : 0 ≤ d.uLen * CROP_S * sr := by rw [CROP_S]; positivity
    exact ⟨hnonneg, Int.ceil_nonneg hnonneg⟩
  · exact h

/-- R250: at an intensity in `[0,1]` no hold is longer than 32 ticks. -/
theorem holdLength_le {q : Q} (hq : q ≤ 1) : holdLength q ≤ 32 := by
  refine Nat.floor_le_of_le ?_
  rw [DEC_MAX]
  push_cast
  linarith

theorem decimate_cnt_lt {inp q : Q} (hq : q ≤ 1) (d : Decim) : (decimate inp q d).cnt < 32 := by
  have := holdLength_le hq
  rw [decimate]
  split_ifs
  · exact Nat.zero_lt_succ _
  · change d.cnt + 1 < 32
    omega

/-! ### The clock divider -/

/-- R182: no running tick leaves the reset flag armed. -/
@[simp] theorem klokStart_rstArmed (k : Klok) : (klokStart k).rstArmed = false := by
  rcases h : k.rstArmed with _ | _ <;> simp [klokStart, h]

@[simp] theorem klokStart_cnt (k : Klok) : (klokStart k).cnt = k.cnt := by
  rw [klokStart]; split_ifs <;> rfl

@[simp] theorem klokCount_rstArmed (b : KlokOps) (k : Klok) :
    (klokCount b k).rstArmed = k.rstArmed := by
  rw [klokCount]; split_ifs <;> rfl

@[simp] theorem klokCount_period (b : KlokOps) (k : Klok) :
    (klokCount b k).period = klokPeriod b := by
  rw [klokCount]; split_ifs <;> rfl

theorem klokPeriod_nonneg {b : KlokOps} (hsr : 0 ≤ b.sr) (hbpm : 0 ≤ b.bpm) :
    0 ≤ klokPeriod b := by
  rw [klokPeriod]; positivity

/-- R184: the period is only taken off a counter above it. -/
theorem klokCount_cnt_nonneg (b : KlokOps) {k : Klok} (h : 0 ≤ k.cnt) :
    0 ≤ (klokCount b k).cnt := by
  rw [klokCount]
  split_ifs with hp
  · exact sub_nonneg.mpr hp.le
  · exact add_nonneg h zero_le_one

theorem divOutput_level (step : Fin 8) (c : Pg) (dt : Q) (i : Fin 8) :
    divOutput step (c.proc dt).2 i = 0 ∨ divOutput step (c.proc dt).2 i = V_GATE := by
  rw [divOutput]
  split_ifs
  · exact pulse_output_level c dt
  · exact .inl rfl

/-- R185, R186: the output registers are at their levels whatever the counters hold. -/
theorem klokInv_outputs (dt : Q) {k : Klok} (hcnt : 0 ≤ k.cnt) (hperiod : 0 ≤ k.period)
    (hstopped : k.rstArmed = true → k.cnt = 0 ∧ k.period = 0 ∧ k.step = 0) :
    KlokInv (klokOutputs dt k) where
  cnt := hcnt
  period := hperiod
  stopped := hstopped
  oClk := pulse_output_level _ _
  oRst := pulse_output_level _ _
  oDiv i := by
    simp only [klokOutputs, Fin.getElem_fin, Vector.getElem_ofFn]
    exact divOutput_level _ _ _ _
  oLight := Pg.proc_level _ _

theorem klokInv_tick {b : KlokOps} {k : Klok} (hsr : 0 ≤ b.sr) (hbpm : b.run = true → 0 < b.bpm)
    (h : KlokInv k) : KlokInv (klokTick b k) := by
  rw [klokTick]
  split_ifs with hrun
  · refine klokInv_outputs b.dt (klokCount_cnt_nonneg b ?_) ?_ ?_
    · simpa using h.cnt
    · simpa using klokPeriod_nonneg hsr (hbpm hrun).le
    · simp
  · exact klokInv_outputs b.dt le_rfl le_rfl fun _ => ⟨rfl, rfl, rfl⟩

/-! ### The step sequencer -/

@[simp] theorem secuTrigger_randLock (b : SecuOps) (q : Secu) :
    (secuTrigger b q).randLock = q.randLock := by
  rw [secuTrigger]; split_ifs <;> rfl

theorem secuRandomize_randLock_nonneg {b : SecuOps} {q : Secu} (hsr : 0 ≤ b.sr)
    (h : 0 ≤ q.randLock) : 0 ≤ (secuRandomize b q).randLock :=
  lockout_nonneg _ _ h hsr

theorem secuInv_outputs (b : SecuOps) {q : Secu} (h : 0 ≤ q.randLock) :
    SecuInv (secuOutputs b q) where
  randLock := h
  oLight i := by simpa [secuOutputs] using (em (i = q.outStep)).symm

theorem secuInv_tick {b : SecuOps} {q : Secu} (hsr : 0 ≤ b.sr) (h : SecuInv q) :
    SecuInv (secuTick b q) := by
  refine secuInv_outputs b ?_
  rw [secuTrigger_randLock]
  exact secuRandomize_randLock_nonneg hsr h.randLock

theorem secuInv_gridWrite (b : GwrOps) {q : Secu} (h : SecuInv q) : SecuInv (gridWrite b q) :=
  { h with }

/-! ### The scene crossfader -/

/-- R221: the first tick ends the startup. -/
@[simp] theorem scenerStart_starting (b : ScenerOps) (c : Scener) :
    (scenerStart b c).starting = false := by
  rcases h : c.starting with _ | _ <;> simp [scenerStart, h]

@[simp] theorem scenerReset_starting (b : ScenerOps) (c : Scener) :
    (scenerReset b c).starting = c.starting := by
  rw [scenerReset]; split_ifs <;> rfl

@[simp] theorem scenerWrap_starting (b : ScenerOps) (total : Nat) (c : Scener) :
    (scenerWrap b total c).starting = c.starting := by
  rw [scenerWrap]; split_ifs <;> rfl

@[simp] theorem scenerChange_starting (c : Scener) : (scenerChange c).starting = c.starting := by
  rw [scenerChange]; split_ifs <;> rfl

@[simp] theorem scenerAdvance_starting (b : ScenerOps) (c : Scener) :
    (scenerAdvance b c).starting = c.starting := by
  simp [scenerAdvance, scenerAlerts, scenerScan, scenerCount]

@[simp] theorem scenerTrigger_starting (b : ScenerOps) (c : Scener) :
    (scenerTrigger b c).starting = c.starting := by
  rw [scenerTrigger]; split_ifs <;> simp

@[simp] theorem scenerRamp_starting (b : ScenerOps) (c : Scener) :
    (scenerRamp b c).starting = c.starting := rfl

/-- R229: the ramp is in range after its update, whatever it was before. -/
theorem scenerRamp_unit (b : ScenerOps) (c : Scener) : InUnit (scenerRamp b c).ramp.val := by
  simp only [scenerRamp]
  split_ifs
  · exact ⟨zero_le_one, le_rfl⟩
  · exact Rp.adv_unit _ _ _

/-- R230, R231: the alert outputs are at their levels whatever the pulses hold. -/
theorem scenerInv_outputs (b : ScenerOps) {c : Scener} (hramp : InUnit c.ramp.val)
    (hstart : c.starting = false) : ScenerInv (scenerOutputs b c) where
  ramp := hramp
  startup h := absurd (hstart.symm.trans h) (by decide)
  oAlert j := by
    simp only [scenerOutputs, Fin.getElem_fin, Vector.getElem_ofFn]
    exact pulse_output_level _ _
  oAlight j := by
    simp only [scenerOutputs, Fin.getElem_fin, Vector.getElem_ofFn]
    exact Pg.proc_level _ _

/-- R220, R221: a tick establishes the crossfader's invariant from any state. -/
theorem scenerInv_tick (b : ScenerOps) (c : Scener) : ScenerInv (scenerTick b c) :=
  scenerInv_outputs b (scenerRamp_unit b _) (by simp)

/-! ### Updates of one unit -/

theorem stateInv_setInputs {s : State} (h : StateInv s) (es : List ClockEdge) :
    StateInv (s.setInputs es) :=
  { h with }

theorem stateInv_setVoice {s : State} (h : StateInv s) {v : Fin 5} {x : Voice}
    (hx : VoiceInv v x) : StateInv (s.setVoice v x) :=
  { h with
    voice := fun w => by
      rw [State.setVoice_get]
      split_ifs with hw
      · exact hw ▸ hx
      · exact h.voice w }

theorem stateInv_setFxOut {s : State} (h : StateInv s) (e : Fin 5) (x : Q) :
    StateInv (s.setFxOut e x) :=
  { h with }

theorem stateInv_setGlitch {s : State} (h : StateInv s) {g : Glitch} (hg : GlitchInv g) :
    StateInv (s.setGlitch g) :=
  { h with glitch := hg }

theorem stateInv_setCrop {s : State} (h : StateInv s) {c : Crop} (hc : CropInv c) :
    StateInv (s.setCrop c) :=
  { h with crop := hc }

theorem stateInv_setDecim {s : State} (h : StateInv s) {d : Decim} (hd : d.cnt < 32) :
    StateInv (s.setDecim d) :=
  { h with decim := hd }

theorem stateInv_setKlok {s : State} (h : StateInv s) {k : Klok} (hk : KlokInv k) :
    StateInv (s.setKlok k) :=
  { h with klok := hk }

theorem stateInv_setSecu {s : State} (h : StateInv s) {q : Secu} (hq : SecuInv q) :
    StateInv (s.setSecu q) :=
  { h with secu := hq }

theorem stateInv_setScener {s : State} (h : StateInv s) {c : Scener} (hc : ScenerInv c) :
    StateInv (s.setScener c) :=
  { h with scener := hc }

theorem stateInv_setMix {s : State} (h : StateInv s) (x : Q) : StateInv (s.setMix x) :=
  { h with }

/-- R290: reset establishes the invariant from any state. -/
theorem stateInv_resetBlock (s : State) : StateInv (resetBlock s) :=
  stateInv_setInputs resetMeetsInvariant s.inputs

/-! ### Commands -/

/-- R73, of a meaning: where it completes in a state of the invariant, the next state meets it. -/
def KeepsInv (run : State → StepOutcome) : Prop :=
  ∀ s t : State, StateInv s → run s = .next t → StateInv t

theorem KeepsInv.of_update {f : State → State} (h : ∀ {s : State}, StateInv s → StateInv (f s)) :
    KeepsInv fun s => .next (f s) := by
  intro s t hs e
  cases e
  exact h hs

/-- R88: a meaning runs only with legal operands. -/
theorem KeepsInv.withLegal {p : Option OperandProblem} {run : State → StepOutcome}
    (h : p = none → KeepsInv run) : KeepsInv fun s => Machine.withLegal p (run s) := by
  intro s t hs e
  obtain ⟨hp, hrun⟩ := withLegal_next.mp e
  exact h hp s t hs hrun

/-- R140, R141: a skipped effect changes nothing, and the blend writes an output the invariant says
nothing of. -/
theorem KeepsInv.fxWrapper {e : Fin 5} {b : FxOps} {effect : State → Q → Except Fault (State × Q)}
    (h : ∀ {s t : State} {y : Q}, StateInv s → effect s (intensity b) = .ok (t, y) → StateInv t) :
    KeepsInv fun s => Machine.fxWrapper e b (effect s) s := by
  intro s r hs hr
  obtain ⟨-, rfl⟩ | ⟨-, -, t, y, he, rfl⟩ := fxWrapper_next.mp hr
  · exact hs
  · exact stateInv_setFxOut (h hs he) e _

theorem keepsInv_tickVoice (v : Fin 5) (b : VoiceOps) : KeepsInv (tickVoice v b) := by
  refine .withLegal fun hb => .of_update fun hs => ?_
  obtain ⟨⟨-, hsr⟩, hlen⟩ := (voiceProblem_none b).mp hb
  exact stateInv_setVoice hs (voiceInv_tick hsr.le hlen (hs.voice v))

/-- R144, R146: an effect without a state of its own. -/
theorem keepsInv_stateless (e : Fin 5) (b : FxOps) (effect : Q → Q) :
    KeepsInv fun s => withLegal (fxProblem b) (fxWrapper e b (fun q => .ok (s, effect q)) s) := by
  refine .withLegal fun _ => .fxWrapper fun hs he => ?_
  cases he
  exact hs

theorem keepsInv_execTickDecimate (b : FxOps) : KeepsInv (execTickDecimate b) := by
  refine .withLegal fun _ => .fxWrapper fun hs he => ?_
  cases he
  exact stateInv_setDecim hs (decimate_cnt_lt (intensity_unit b).2 _)

theorem keepsInv_execTickGlitch (b : FxOps) (d : FxDraws) : KeepsInv (execTickGlitch b d) := by
  refine .withLegal fun hb => .fxWrapper fun {s t y} hs he => ?_
  obtain ⟨-, -, hd⟩ := (fxDrawProblem_none b d).mp hb
  rcases hg : glitchEffect b.inp (intensity b) d s.glitch with f | ⟨g, y'⟩ <;>
    simp only [hg] at he <;> cases he
  exact stateInv_setGlitch hs (glitchInv_effect hs.glitch (intensity_unit b) hd hg)

theorem keepsInv_execTickCrop (b : FxOps) (d : FxDraws) : KeepsInv (execTickCrop b d) := by
  refine .withLegal fun hb => .fxWrapper fun hs he => ?_
  obtain ⟨⟨-, hsr⟩, -, hd, -⟩ := (fxDrawProblem_none b d).mp hb
  cases he
  exact stateInv_setCrop hs (cropInv_effect hs.crop hsr.le hd)

theorem keepsInv_execTickKlok (b : KlokOps) : KeepsInv (execTickKlok b) := by
  refine .withLegal fun hb => .of_update fun hs => ?_
  obtain ⟨⟨-, hsr⟩, hbpm⟩ := (klokProblem_none b).mp hb
  exact stateInv_setKlok hs (klokInv_tick hsr.le hbpm hs.klok)

theorem keepsInv_execTickSecu (b : SecuOps) : KeepsInv (execTickSecu b) := by
  refine .withLegal fun hb => .of_update fun hs => ?_
  obtain ⟨⟨-, hsr⟩, -⟩ := (secuProblem_none b).mp hb
  exact stateInv_setSecu hs (secuInv_tick hsr.le hs.secu)

theorem exec_keepsInv (i : Instr) : KeepsInv (exec i) := by
  cases i with
  | nop => exact .of_update id
  | reset => exact .of_update fun {s} _ => stateInv_resetBlock s
  | gwr b =>
    exact .withLegal fun _ => .of_update fun hs => stateInv_setSecu hs (secuInv_gridWrite b hs.secu)
  | tickVoice0 b => exact keepsInv_tickVoice 0 b
  | tickVoice1 b => exact keepsInv_tickVoice 1 b
  | tickVoice2 b => exact keepsInv_tickVoice 2 b
  | tickVoice3 b => exact keepsInv_tickVoice 3 b
  | tickVoice4 b => exact keepsInv_tickVoice 4 b
  | tickBitcrush b => exact keepsInv_stateless 0 b (crush b.inp)
  | tickDecimate b => exact keepsInv_execTickDecimate b
  | tickDistort b => exact keepsInv_stateless 2 b (distort b.inp)
  | tickGlitch b d => exact keepsInv_execTickGlitch b d
  | tickCrop b d => exact keepsInv_execTickCrop b d
  | tickKlok b => exact keepsInv_execTickKlok b
  | tickSecu b => exact keepsInv_execTickSecu b
  | tickScener b =>
    exact .withLegal fun _ => .of_update fun {s} hs =>
      stateInv_setScener hs (scenerInv_tick b s.scener)
  | tickMixbus b => exact .withLegal fun _ => .of_update fun hs => stateInv_setMix hs (mix b)

/-- Settles O13: an edge with `rst` resets the block, an edge without a command changes no unit, and
every command keeps the invariant. -/
theorem stepKeepsInvariant : Obligations.StepKeepsInvariant := by
  intro s t hs ht
  rcases step_cases s with
      ⟨-, e⟩ | ⟨_, es, -, ⟨-, e⟩ | ⟨-, -, e⟩ | ⟨-, -, ⟨i, -, e⟩ | ⟨_, -, e⟩⟩⟩ <;>
    rw [e] at ht
  · cases ht
    exact hs
  · cases ht
    exact stateInv_resetBlock _
  · cases ht
    exact stateInv_setInputs hs es
  · exact exec_keepsInv i _ _ (stateInv_setInputs hs es) ht
  · cases ht

end Sys2Proof.Proofs
end

section
/-!
PROOFS. The family 30_encoding: the command map in both directions (spec/30_encoding R81 to R83), the
step over a valid edge (R80), the refusal of illegal operands (R88), the cell control words (R89), the
bit encodings of the state (R90) and the output registers between ticks (R91). `decode_cases` says once
what the decoder answers; `exec_eq_withLegal` says once that every command is the legality guard on
its `problem` before a meaning that refuses nothing.
-/

namespace Sys2Proof.Proofs

open Sys2Proof Sys2Proof.Machine Sys2Proof.Safety Sys2Proof.Claims

/-! ### The command map -/

/-- R81: a word is its two fields, `UNIT` above `FN`. -/
theorem unitField_append_fnField (w : CmdWord) : unitField w ++ fnField w = w :=
  BitVec.extractLsb'_append_extractLsb'

theorem unitField_word (i : Instr) : unitField i.word = i.fields.1 :=
  BitVec.extractLsb'_append_eq_left

theorem fnField_word (i : Instr) : fnField i.word = i.fields.2 :=
  BitVec.extractLsb'_append_eq_right

theorem fields_ext {w : CmdWord} {u f : BitVec 4} (hu : (unitField w).toNat = u.toNat)
    (hf : (fnField w).toNat = f.toNat) : (u, f) = (unitField w, fnField w) :=
  Prod.ext (BitVec.eq_of_toNat_eq hu.symm) (BitVec.eq_of_toNat_eq hf.symm)

/-- R82, R83: everything the decoder can answer, a command that has the fields of the word and takes
its operands from the ports, or the reserved word itself. -/
theorem decode_cases (w : CmdWord) (p : OperandPorts) :
    (∃ i : Instr, decode w p = .ok i ∧ i.fields = (unitField w, fnField w) ∧ i.drive p = p) ∨
      decode w p = .error (.reservedWord w) := by
  unfold decode
  split
  case h_18 => exact .inr rfl
  all_goals exact .inl ⟨_, rfl, fields_ext ‹_› ‹_›, rfl⟩

theorem decode_word_drive (i : Instr) (p : OperandPorts) : decode i.word (i.drive p) = .ok i := by
  unfold decode
  rw [unitField_word, fnField_word]
  cases i <;> rfl

theorem word_mem_mapWords (i : Instr) : i.word ∈ mapWords := by
  cases i <;> simp [Instr.word, Instr.fields, mapWords]

/-- R82: what decodes is the word and the operands of the command it decodes to. -/
theorem word_drive_of_decode {w : CmdWord} {p : OperandPorts} {i : Instr} (h : decode w p = .ok i) :
    i.word = w ∧ i.drive p = p := by
  rcases decode_cases w p with ⟨j, e, hfields, hdrive⟩ | e
  · obtain rfl : j = i := Except.ok.inj (e.symm.trans h)
    exact ⟨by rw [Instr.word, hfields, unitField_append_fnField], hdrive⟩
  · cases e.symm.trans h

/-- R83: a word outside the map is rejected by name. -/
theorem decode_reserved {w : CmdWord} (hw : w ∉ mapWords) (p : OperandPorts) :
    decode w p = .error (.reservedWord w) := by
  rcases decode_cases w p with ⟨i, e, -⟩ | e
  · exact absurd ((word_drive_of_decode e).1 ▸ word_mem_mapWords i) hw
  · exact e

/-- Settles O2: a command's word and ports decode to it, and the decoder's one inversion lemma gives the
way back. -/
theorem decodeAndEncodeAgree : Obligations.DecodeAndEncodeAgree := by
  refine ⟨fun i => decode_word_drive i { }, decode_word_drive, fun w p i h => ?_⟩
  obtain ⟨rfl, hdrive⟩ := word_drive_of_decode h
  exact ⟨rfl, hdrive, word_mem_mapWords i⟩

/-- Settles O1: each word of the map by running the decoder on it, every other word as reserved. -/
theorem commandMapWords : Obligations.CommandMapWords := by
  intro p
  refine ⟨rfl, rfl, rfl, rfl, rfl, rfl, rfl, rfl, rfl, rfl, rfl, rfl, rfl, rfl, rfl, rfl, rfl, ?_⟩
  exact fun w hw => decode_reserved hw p

/-! ### The step over a valid edge -/

/-- Settles O3: the step of a valid edge whose word decodes. -/
theorem stepRunsDecodedCommand : Obligations.StepRunsDecodedCommand := by
  intro s e es i hs hr hv hd
  simp [step, nextEdge_cons s e es hs, hr, hv, hd, State.setInputs]

/-- Settles O5: the decoder rejects the word, and the step refuses what the decoder rejects. -/
theorem reservedWordRefused : Obligations.ReservedWordRefused := by
  intro s e es hs hr hv hw
  simp [step, nextEdge_cons s e es hs, hr, hv, decode_reserved hw e.ports]

/-! ### What every command can do -/

/-- R270, R80, of an outcome in state `s`: a fault, or a next state in which the host's later edges are
as they were (log 4); no refusal. -/
def FaultsOrKeepsInputs (s : State) (run : StepOutcome) : Prop :=
  (∃ f, run = .fault f) ∨ ∃ t, run = .next t ∧ t.inputs = s.inputs

theorem FaultsOrKeepsInputs.of_next {s t : State} (h : t.inputs = s.inputs) :
    FaultsOrKeepsInputs s (.next t) :=
  .inr ⟨t, rfl, h⟩

theorem FaultsOrKeepsInputs.fxWrapper {e : Fin 5} {b : FxOps} {effect : Q → Except Fault (State × Q)}
    {s : State} (h : ∀ {q y : Q} {t : State}, effect q = .ok (t, y) → t.inputs = s.inputs) :
    FaultsOrKeepsInputs s (Machine.fxWrapper e b effect s) := by
  rcases fxWrapper_cases e b effect s with ⟨-, hn⟩ | ⟨-, -, ⟨f, -, hn⟩ | ⟨t, y, he, hn⟩⟩ <;> rw [hn]
  · exact .of_next rfl
  · exact .inl ⟨f, rfl⟩
  · exact .of_next ((State.setFxOut_inputs ..).trans (h he))

/-- R88: every command is the legality guard on its `problem` before an outcome that is no refusal. -/
theorem exec_eq_withLegal (i : Instr) (s : State) :
    ∃ run, exec i s = withLegal i.problem run ∧ FaultsOrKeepsInputs s run := by
  cases i with
  | tickBitcrush | tickDecimate | tickDistort | tickCrop =>
    exact ⟨_, rfl, .fxWrapper fun he => by cases he; rfl⟩
  | tickGlitch b d =>
    refine ⟨_, rfl, .fxWrapper fun {q y t} he => ?_⟩
    rcases hg : glitchEffect b.inp q d s.glitch with f | ⟨g, y'⟩ <;> simp only [hg] at he <;> cases he
    rfl
  | _ => exact ⟨.next _, rfl, .of_next rfl⟩

theorem exec_keeps_inputs {i : Instr} {s t : State} (h : exec i s = .next t) :
    t.inputs = s.inputs := by
  obtain ⟨run, e, ⟨f, rfl⟩ | ⟨t', rfl, ht⟩⟩ := exec_eq_withLegal i s <;> rw [e] at h
  · cases (withLegal_next.mp h).2
  · cases (withLegal_next.mp h).2
    exact ht

/-! ### Refusal of illegal operands -/

theorem exec_refused_iff {i : Instr} {s : State} {p : OperandProblem} :
    exec i s = .refused (.illegalOperand p) ↔ i.problem = some p := by
  obtain ⟨run, e, hrun⟩ := exec_eq_withLegal i s
  rw [e]
  rcases i.problem with _ | q
  · obtain ⟨f, rfl⟩ | ⟨t, rfl, -⟩ := hrun <;> simp
  · simp [withLegal]

theorem problem_eq_none_iff (i : Instr) : i.problem = none ↔ LegalOperands i := by
  have h : Laws.LegalForm.Statement i := by
    cases i with
    | nop => exact Laws.LegalForm.nop
    | reset => exact Laws.LegalForm.reset
    | gwr b => exact Laws.LegalForm.gwr b
    | tickVoice0 b => exact Laws.LegalForm.tickVoice0 b
    | tickVoice1 b => exact Laws.LegalForm.tickVoice1 b
    | tickVoice2 b => exact Laws.LegalForm.tickVoice2 b
    | tickVoice3 b => exact Laws.LegalForm.tickVoice3 b
    | tickVoice4 b => exact Laws.LegalForm.tickVoice4 b
    | tickBitcrush b => exact Laws.LegalForm.tickBitcrush b
    | tickDecimate b => exact Laws.LegalForm.tickDecimate b
    | tickDistort b => exact Laws.LegalForm.tickDistort b
    | tickGlitch b d => exact Laws.LegalForm.tickGlitch b d
    | tickCrop b d => exact Laws.LegalForm.tickCrop b d
    | tickKlok b => exact Laws.LegalForm.tickKlok b
    | tickSecu b => exact Laws.LegalForm.tickSecu b
    | tickScener b => exact Laws.LegalForm.tickScener b
    | tickMixbus b => exact Laws.LegalForm.tickMixbus b
  simpa [Laws.LegalForm.Statement, Instr.wellFormed] using h

/-! ### The precondition a refusal names -/

theorem breaks_of_rateProblem {i : Instr} {dt sr : Q} {p : OperandProblem}
    (hi : rateOperands i = some (dt, sr)) (h : rateProblem dt sr = some p) : Breaks i p := by
  unfold rateProblem at h
  split_ifs at h with hdt hsr <;> cases h
  · exact ⟨dt, sr, hi, hdt⟩
  · exact ⟨dt, sr, hi, hsr⟩

theorem breaks_of_drawsProblem {i : Instr} {us : List Q} {p : OperandProblem}
    (hi : ∀ u ∈ us, HasDraw i u) (h : drawsProblem us = some p) : Breaks i p := by
  have hbad : ¬ ∀ u ∈ us, InDrawRange u := fun hall => by
    rw [(drawsProblem_none us).mpr hall] at h
    cases h
  unfold drawsProblem at h
  split_ifs at h
  cases h
  push Not at hbad
  obtain ⟨u, hu, hrange⟩ := hbad
  exact ⟨u, hi u hu, hrange⟩

theorem breaks_of_gwrProblem {b : GwrOps} {p : OperandProblem} (h : gwrProblem b = some p) :
    Breaks (.gwr b) p := by
  unfold gwrProblem at h
  split_ifs at h with hidx
  cases h
  exact ⟨b, rfl, by omega⟩

theorem rateOperands_voiceCommand (v : Fin 5) (b : VoiceOps) :
    rateOperands (voiceCommand v b) = some (b.dt, b.sr) := by
  match v with
  | 0 | 1 | 2 | 3 | 4 => rfl

theorem breaks_of_voiceProblem (v : Fin 5) {b : VoiceOps} {p : OperandProblem}
    (h : voiceProblem b = some p) : Breaks (voiceCommand v b) p := by
  obtain hrate | ⟨-, h⟩ := Option.or_eq_some_iff.mp h
  · exact breaks_of_rateProblem (rateOperands_voiceCommand v b) hrate
  · split_ifs at h with hlen
    cases h
    exact ⟨v, b, rfl, not_lt.mp hlen⟩

/-- Of the two effect commands that carry draws. -/
theorem breaks_of_fxDrawProblem {i : Instr} {b : FxOps} {d : FxDraws} {p : OperandProblem}
    (hi : i = .tickGlitch b d ∨ i = .tickCrop b d) (h : fxDrawProblem b d = some p) : Breaks i p := by
  obtain hrate | ⟨-, hdraws⟩ := Option.or_eq_some_iff.mp h
  · exact breaks_of_rateProblem (by rcases hi with rfl | rfl <;> rfl) hrate
  · exact breaks_of_drawsProblem (fun u hu => .inl ⟨b, d, hi, by simpa using hu⟩) hdraws

theorem breaks_of_klokProblem {b : KlokOps} {p : OperandProblem} (h : klokProblem b = some p) :
    Breaks (.tickKlok b) p := by
  obtain hrate | ⟨-, h⟩ := Option.or_eq_some_iff.mp h
  · exact breaks_of_rateProblem rfl hrate
  · split_ifs at h with hbpm
    cases h
    exact ⟨b, rfl, hbpm⟩

theorem hasDraw_tickSecu (b : SecuOps) {u : Q} (hu : u ∈ b.uProb :: b.uStep :: b.uCell.toList) :
    HasDraw (.tickSecu b) u := by
  refine .inr ⟨b, rfl, ?_⟩
  obtain h | h | h : u = b.uProb ∨ u = b.uStep ∨ u ∈ b.uCell.toList := by simpa using hu
  · exact .inl h
  · exact .inr (.inl h)
  · obtain ⟨a, ha, rfl⟩ := Vector.getElem_of_mem (Vector.mem_toList_iff.mp h)
    exact .inr (.inr ⟨⟨a, ha⟩, rfl⟩)

theorem breaks_of_secuProblem {b : SecuOps} {p : OperandProblem} (h : secuProblem b = some p) :
    Breaks (.tickSecu b) p := by
  obtain h | ⟨-, hdraws⟩ := Option.or_eq_some_iff.mp h
  · obtain hrate | ⟨-, h⟩ := Option.or_eq_some_iff.mp h
    · exact breaks_of_rateProblem rfl hrate
    · split_ifs at h with hsteps
      cases h
      exact ⟨b, rfl, by omega⟩
  · exact breaks_of_drawsProblem (fun _ => hasDraw_tickSecu b) hdraws

/-- The scene total is looked at only when the number of scenes is in range. -/
theorem breaks_of_scenerProblem {b : ScenerOps} {p : OperandProblem} (h : scenerProblem b = some p) :
    Breaks (.tickScener b) p := by
  obtain h | ⟨hbefore, h⟩ := Option.or_eq_some_iff.mp h
  · obtain hrate | ⟨-, h⟩ := Option.or_eq_some_iff.mp h
    · exact breaks_of_rateProblem rfl hrate
    · split_ifs at h with hscenes
      cases h
      exact ⟨b, rfl, by omega⟩
  · have hscenes : 1 ≤ b.nscenes ∧ b.nscenes ≤ 6 := by
      simpa using (Option.or_eq_none_iff.mp hbefore).2
    split_ifs at h with htotal
    cases h
    refine ⟨b, rfl, fun s hs => ?_⟩
    by_contra hlen
    exact htotal ((sceneTotal_pos b hscenes.2).mpr ⟨s, hs, Nat.one_le_iff_ne_zero.mpr hlen⟩)

/-- R88: the first precondition found broken is broken. -/
theorem breaks_of_problem {i : Instr} {p : OperandProblem} (h : i.problem = some p) : Breaks i p := by
  cases i with
  | nop | reset => cases h
  | gwr b => exact breaks_of_gwrProblem h
  | tickVoice0 b => exact breaks_of_voiceProblem 0 h
  | tickVoice1 b => exact breaks_of_voiceProblem 1 h
  | tickVoice2 b => exact breaks_of_voiceProblem 2 h
  | tickVoice3 b => exact breaks_of_voiceProblem 3 h
  | tickVoice4 b => exact breaks_of_voiceProblem 4 h
  | tickBitcrush | tickDecimate | tickDistort | tickMixbus => exact breaks_of_rateProblem rfl h
  | tickGlitch b d => exact breaks_of_fxDrawProblem (.inl rfl) h
  | tickCrop b d => exact breaks_of_fxDrawProblem (.inr rfl) h
  | tickKlok b => exact breaks_of_klokProblem h
  | tickSecu b => exact breaks_of_secuProblem h
  | tickScener b => exact breaks_of_scenerProblem h

/-- Settles O9: a command is refused exactly with its `problem`, which is none exactly for legal operands
and is a precondition they break otherwise. -/
theorem illegalOperandsRefused : Obligations.IllegalOperandsRefused := by
  intro i s
  refine ⟨?_, fun p h => breaks_of_problem (exec_refused_iff.mp h)⟩
  simp only [exec_refused_iff, ← problem_eq_none_iff]
  exact Option.ne_none_iff_exists'.symm

/-! ### Cell control words -/

/-- Settles O20: the bits of each control word select the operations. -/
theorem cellControlWords : Obligations.CellControlWords :=
  ⟨fun _ _ => ⟨rfl, rfl⟩, fun _ _ _ => ⟨rfl, rfl, rfl, rfl⟩, fun _ _ _ => ⟨rfl, rfl, rfl, rfl⟩⟩

/-! ### Bit encodings of the state -/

theorem ofBits_bits (c : Ed) : Ed.ofBits c.bits = c := by
  obtain ⟨_ | _⟩ := c <;> rfl

theorem bits_eq_one_iff (c : Ed) : c.bits = 1 ↔ c.state = .high := by
  obtain ⟨_ | _⟩ := c <;> decide

theorem sceneBits_toNat (i : Fin 6) : (sceneBits i).toNat = i.val :=
  (BitVec.toNat_ofNat _ _).trans (Nat.mod_eq_of_lt (by omega))

theorem cursorBits_faithful {n : Nat} (h : n ≤ CAP) :
    ∃ w, cursorBits n = some w ∧ w.toNat = n := by
  have hfits : n < 2 ^ 15 := h.trans_lt (by decide)
  exact ⟨_, if_pos hfits, (BitVec.toNat_ofNat _ _).trans (Nat.mod_eq_of_lt hfits)⟩

/-- R73, R165: the write cursor stays inside the buffer or at its end. -/
theorem glitchInv_wr_le {g : Glitch} (h : GlitchInv g) : g.wr ≤ CAP := by
  rcases hf : g.filling with _ | _
  · exact (h.fullPhase hf).le
  · exact (h.fillPhase hf).1.le

/-- R165: the read cursor is at most the ceiling of a threshold below `CAP`. -/
theorem glitchInv_rd_le {g : Glitch} (h : GlitchInv g) : g.rd ≤ CAP := by
  have hthr : ⌈g.thr⌉ ≤ (CAP : Int) := Int.ceil_le.mpr (by exact_mod_cast h.thrBelowCap.le)
  exact_mod_cast h.rdBound.trans hthr

/-- Settles O57: the one-bit encodings case by case, the indices and cursors because they are below the
power of two of their width. -/
theorem stateEncodingsFit : Obligations.StateEncodingsFit :=
  ⟨fun c => ⟨ofBits_bits c, (bits_eq_one_iff c).symm⟩, by decide, fun _ => rfl, sceneBits_toNat,
    fun _ h => ⟨cursorBits_faithful (glitchInv_wr_le h), cursorBits_faithful (glitchInv_rd_le h)⟩⟩

/-! ### The output registers -/

/-- R2, R91: the unit an output register belongs to. -/
def regUnit : OutReg → UnitId
  | .voiceOsc v | .voiceAmp v | .voiceEnv v | .voiceEnvB v | .voiceGate v | .voiceLight v => .voice v
  | .fx e => effectUnit e
  | .klokClk | .klokRst | .klokDiv _ | .klokLight => .klok
  | .secuCol _ | .secuLight _ => .secu
  | .scenerCol _ | .scenerAlert _ | .scenerAlight _ => .scener
  | .mix => .mixbus

theorem fxOut_eq_of_sameUnit {s t : State} {e : Fin 5} (h : SameUnit s t (effectUnit e)) :
    t.fxOut[e] = s.fxOut[e] := by
  match e, h with
  | 0, h | 2, h => exact h
  | 1, ⟨_, h⟩ | 4, ⟨_, h⟩ | 3, ⟨_, _, h⟩ => exact h

/-- R3: the same unit has the same output registers. -/
theorem readOut_eq_of_sameUnit {s t : State} {r : OutReg} (h : SameUnit s t (regUnit r)) :
    readOut t r = readOut s r := by
  cases r with
  | fx e => exact fxOut_eq_of_sameUnit h
  | _ => simp_all [readOut, regUnit, SameUnit]

/-- R262: of `SECU`'s commands only its tick writes its outputs; `GWR` writes the grid. -/
theorem secu_outputs_of_ne_tickSecu {i : Instr} {s t : State} (hr : i ≠ .reset)
    (h : exec i s = .next t) (hi : ∀ b, i ≠ .tickSecu b) :
    t.secu.oCol = s.secu.oCol ∧ t.secu.oLight = s.secu.oLight := by
  by_cases hu : unitOf i = some .secu
  · cases i with
    | gwr b =>
      obtain ⟨-, e⟩ := withLegal_next.mp h
      cases e
      exact ⟨rfl, rfl⟩
    | tickSecu b => exact absurd rfl (hi b)
    | _ => cases hu
  · have hsecu : t.secu = s.secu := unitsShareNoState.1 i s t hr h .secu hu
    simp [hsecu]

/-- Settles O58: a register holds because its unit is left as it was (R3), and the sequencer's
registers also over `GWR`. -/
theorem outputsHoldBetweenTicks : Obligations.OutputsHoldBetweenTicks := by
  refine ⟨fun _ _ _ => exec_keeps_inputs, fun i s t hr h => ?_⟩
  have hold (r : OutReg) (hu : unitOf i ≠ some (regUnit r)) : readOut t r = readOut s r :=
    readOut_eq_of_sameUnit (unitsShareNoState.1 i s t hr h _ hu)
  refine ⟨fun v hu => ?_, fun e hu => hold (.fx e) hu, fun hu => ?_, fun hi => ?_, fun hu => ?_,
    fun hu => hold .mix hu⟩
  · exact ⟨hold (.voiceOsc v) hu, hold (.voiceAmp v) hu, hold (.voiceEnv v) hu,
      hold (.voiceEnvB v) hu, hold (.voiceGate v) hu, hold (.voiceLight v) hu⟩
  · exact ⟨hold .klokClk hu, hold .klokRst hu, hold .klokLight hu, fun k => hold (.klokDiv k) hu⟩
  · obtain ⟨hcol, hlight⟩ := secu_outputs_of_ne_tickSecu hr h hi
    exact ⟨fun c => congrArg (·[c]) hcol, fun k => congrArg (·[k]) hlight⟩
  · exact ⟨fun c => hold (.scenerCol c) hu, fun j => hold (.scenerAlert j) hu,
      fun j => hold (.scenerAlight j) hu⟩

end Sys2Proof.Proofs
end

section
/-!
PROOFS. The family 40_primitive_cells: the edge detector (spec/40_primitive_cells R102), the pulse
generator (R103, R104), the ramp (R105, R106), the envelope (R107), the lockout (R108), the shared
functions (R101, R109) and the configuration functions (R111). The two run lengths, of a pulse and of
a lockout, are inductions on the tick that generalise what remains or what is left to count down.
-/

namespace Sys2Proof.Proofs

open Sys2Proof Sys2Proof.Machine Sys2Proof.Safety Sys2Proof.Claims

/-! ### The edge detector -/

/-- R102: what an edge detector becomes and reports, in the words of the claims. -/
theorem edProc_eq (c : Ed) (v : Q) : c.proc v = (edAfter c v, decide (Edge c v)) := by
  obtain ⟨st⟩ := c
  rcases Ed.proc_cases ⟨st⟩ v with ⟨rfl, hv, e⟩ | ⟨rfl, hv, e⟩ | ⟨rfl, hv, e⟩ | ⟨rfl, hv, e⟩
  · have hlow : v ≤ 0 := hv
    simp [e, edAfter, hlow]
  · have hhold : ¬ v ≤ 0 := not_le.mpr hv
    simp [e, edAfter, hhold]
  · have hhigh : 1 ≤ v := hv
    simp [e, edAfter, hhigh]
  · have hhold : ¬ 1 ≤ v := not_le.mpr hv
    simp [e, edAfter, hhold]

/-- Settles O16: the state after the input and the report, in each state on each side of its
threshold. -/
theorem edgeDetectorHysteresis : Obligations.EdgeDetectorHysteresis := by
  intro c v
  rw [edProc_eq]
  obtain ⟨_ | _⟩ := c
  · exact ⟨nofun, nofun, fun _ h => by simp [edAfter, h], fun _ h => by simp [edAfter, h]⟩
  · exact ⟨fun _ h => by simp [edAfter, h], fun _ h => by simp [edAfter, h], nofun, nofun⟩

/-! ### The pulse generator -/

/-- Settles O17: the two branches of the trigger. -/
theorem pulseTriggerExtends : Obligations.PulseTriggerExtends := fun c d =>
  ⟨fun h => (Pg.trig_rem c d).trans (max_eq_right h.le), fun h => if_neg (not_lt.mpr h)⟩

/-- R104: what a processed pulse generator becomes and returns, in the words of the claims. -/
theorem pgProc_eq (c : Pg) (dt : Q) : c.proc dt = (pulseAfter c.rem dt, pulse c.rem) := by
  rcases Pg.proc_cases c dt with ⟨h, e⟩ | ⟨h, e⟩
  · simp [e, pulseAfter, pulse, h]
  · simp [e, pulseAfter, pulse, not_lt.mpr h]

/-- Tick `n` of a pulse is high exactly when `n` ticks have not used up what remained. -/
theorem pgProc_iterate_level {dt : Q} (hdt : 0 < dt) (n : Nat) (c : Pg) :
    (((fun c : Pg => (c.proc dt).1)^[n] c).proc dt).2 = if (n : Q) * dt < c.rem then 1 else 0 := by
  induction n generalizing c with
  | zero => simp [pgProc_eq, pulse]
  | succ n ih =>
    rw [Function.iterate_succ_apply, ih]
    have hn : 0 ≤ (n : Q) * dt := by positivity
    have hsucc : ((n + 1 : Nat) : Q) * dt = n * dt + dt := by push_cast; ring
    rcases Pg.proc_cases c dt with ⟨-, e⟩ | ⟨h, e⟩
    · simp only [e, hsucc, lt_sub_iff_add_lt]
    · have hnow : ¬ (n : Q) * dt < c.rem := by linarith
      have hnext : ¬ (n : Q) * dt + dt < c.rem := by linarith
      simp only [e, hsucc, hnow, hnext]

/-- Settles O18: `n` ticks have not used up `d` exactly when `n < ceil(d/dt)`. -/
theorem pulseLength : Obligations.PulseLength := by
  refine ⟨pgProc_eq, fun d dt n _ hdt => ?_⟩
  have hn : (n : Int) < ⌈d / dt⌉ ↔ (n : Q) * dt < d := by
    rw [Int.lt_ceil, lt_div_iff₀ hdt, Int.cast_natCast]
  simp only [pgProc_iterate_level hdt, hn]

/-! ### The ramp -/

/-- Settles O19: the model's clamp is that of the claims, and it is monotone. -/
theorem rampClearsAndAdvances : Obligations.RampClearsAndAdvances := fun c rate dt =>
  ⟨Rp.clr_val c, Rp.adv_val c rate dt, Rp.adv_unit c rate dt, Rp.adv_mono⟩

/-! ### The envelope -/

theorem env_eq_envelope (r : Q) (k : Nat) : env r k = envelope r k := rfl

/-- R107: the attack of a ramp value in `[0,1]` is below 1, so the clamp does not act. -/
theorem env_of_lt {r : Q} (k : Nat) (h0 : 0 ≤ r) (h : r < 1 / 50) : env r k = 50 * r := by
  have hattack : r / (1 / 50) = 50 * r := by ring
  rw [env_eq_envelope, envelope, if_pos h, hattack]
  exact clamp_of_mem (by linarith) (by linarith)

/-- R107: the decay is a power of a number in `[0,1]`, so the clamp does not act. -/
theorem env_of_le {r : Q} (k : Nat) (h : 1 / 50 ≤ r) (h1 : r ≤ 1) :
    env r k = (51 / 50 - r) ^ k := by
  have hbase : 1 - r + 1 / 50 = 51 / 50 - r := by ring
  have hpos : 0 ≤ 51 / 50 - r := by linarith
  rw [env_eq_envelope, envelope, if_neg (not_lt.mpr h), hbase]
  exact clamp_of_mem (pow_nonneg hpos k) (pow_le_one₀ hpos (by linarith))

theorem env_corner (k : Nat) : env (1 / 50) k = 1 := by
  rw [env_of_le k le_rfl (by norm_num)]
  norm_num

/-- Settles O21: one lemma per branch, and the corner from the decay's. -/
theorem envelopeShape : Obligations.EnvelopeShape := fun r k =>
  ⟨env_eq_envelope r k, fun ⟨h0, h1⟩ =>
    ⟨env_unit r k, env_of_lt k h0, fun h => env_of_le k h h1, fun h => h ▸ env_corner k⟩⟩

/-! ### The lockout -/

theorem lockout_act {prev lock : Q} (sr : Q) (h : prev = 0 ∨ lock ≤ 0) :
    lockout true prev lock sr = (true, sr / 4) :=
  if_pos h

theorem lockout_wait {prev lock : Q} (sr : Q) (hprev : prev ≠ 0) (h : 0 < lock) :
    lockout true prev lock sr = (false, clamp (lock - 1) 0 sr) :=
  if_neg (not_or.mpr ⟨hprev, not_le.mpr h⟩)

/-- A countdown that has not expired is one tick nearer its end. -/
theorem ceil_clamp_sub_one {l sr : Q} (h0 : 0 < l) (h1 : l ≤ sr) :
    ⌈clamp (l - 1) 0 sr⌉ = ⌈l⌉ - 1 := by
  have hceil : 0 < ⌈l⌉ := Int.ceil_pos.mpr h0
  rcases le_total 0 (l - 1) with h | h
  · rw [clamp_of_mem h (by linarith), Int.ceil_sub_one]
  · have hle : ⌈l⌉ ≤ 1 := Int.ceil_le.mpr (by push_cast; linarith)
    rw [clamp_of_le h (by linarith), Int.ceil_zero]
    omega

/-- A held button with the countdown at `l` acts first on tick `ceil(l)`. -/
theorem lockout_iterate_acts {prev sr : Q} (hprev : prev ≠ 0) (n : Nat) {l : Q} (h0 : 0 ≤ l)
    (h1 : l ≤ sr) (hn : (n : Int) ≤ ⌈l⌉) :
    (lockout true prev ((fun l => (lockout true prev l sr).2)^[n] l) sr).1 =
      decide ((n : Int) = ⌈l⌉) := by
  induction n generalizing l with
  | zero =>
    rcases h0.eq_or_lt with rfl | hpos
    · simp [lockout_act sr (.inr le_rfl)]
    · have hceil : 0 < ⌈l⌉ := Int.ceil_pos.mpr hpos
      simp [lockout_wait sr hprev hpos, hceil.ne]
  | succ n ih =>
    have hpos : 0 < l := Int.ceil_pos.mp (by omega)
    have hceil := ceil_clamp_sub_one hpos h1
    obtain ⟨hlo, hhi⟩ := clamp_mem (h0.trans h1) (l - 1)
    rw [Function.iterate_succ_apply, lockout_wait sr hprev hpos, ih hlo hhi (by omega), hceil]
    exact decide_eq_decide.mpr (by omega)

/-- Settles O22: the three branches, and the countdown from `sr/4`. -/
theorem lockoutRepeatsEveryQuarterSecond : Obligations.LockoutRepeatsEveryQuarterSecond :=
  ⟨fun _ _ sr => ⟨rfl, lockout_act sr, lockout_wait sr⟩, fun _ _ n hprev hsr hn =>
    lockout_iterate_acts hprev n (by positivity) (by linarith) hn⟩

/-! ### Shared functions -/

/-- Settles O23: the two branches; the clamp keeps the bounds. -/
theorem quantityIsClampedIntensity : Obligations.QuantityIsClampedIntensity :=
  fun param cv att =>
    ⟨rfl, rfl, quantity_unit param true cv att, quantity_unit param false cv att⟩

/-- Settles O24: the definition, its other form and its two ends. -/
theorem crossfadeIsLinear : Obligations.CrossfadeIsLinear := fun a b p =>
  ⟨rfl, xfade_eq a b p, xfade_zero a b, xfade_one a b⟩

/-- Settles O26: the properties the opaque functions carry. -/
theorem configurationFunctionsMeetTheirProperties :
    Obligations.ConfigurationFunctionsMeetTheirProperties :=
  ⟨Config.exp2_int, Config.exp2_pos, fun _ _ => Config.exp2_mono, Config.tanh_zero, Config.tanh_neg,
    fun x => ⟨Config.neg_one_le_tanh x, Config.tanh_le_one x⟩, fun _ _ => Config.tanh_mono⟩

end Sys2Proof.Proofs
end

section
/-!
PROOFS. The family 41_voice_envelope: the tick of a voice (spec/41_voice_envelope R120 to R126), the
derived properties of R128 and the length of the gate pulse (R122, R125, R104). A connected tick is
rewritten once into the words of the claims, `voiceAfter`; the other statements read its fields. For the
gate, a tick that does not re-trigger is one tick of the pulse generator, so `n` of them continue the
pulse whose length the family 40_primitive_cells gives.
-/

namespace Sys2Proof.Proofs

open Sys2Proof Sys2Proof.Machine Sys2Proof.Safety Sys2Proof.Claims

/-! ### The command -/

/-- R88, R120: a voice's command completes exactly when its operands are legal, and with one result. -/
theorem exec_voiceCommand_next {v : Fin 5} {b : VoiceOps} {s t : State} :
    exec (voiceCommand v b) s = .next t ↔
      (LegalRate b.dt b.sr ∧ b.lengthParam < 7) ∧ t = s.setVoice v (voiceTick v b s.voice[v]) := by
  rw [exec_voiceCommand, withLegal_next, voiceProblem_none, Host.Outcome.next.injEq,
    eq_comm (a := t)]

theorem setVoice_get_self (s : State) (v : Fin 5) (x : Voice) : (s.setVoice v x).voice[v] = x := by
  rw [State.setVoice_get, if_pos rfl]

theorem voiceTick_disconnected {b : VoiceOps} (h : b.trigConn = false) (v : Fin 5) (x : Voice) :
    voiceTick v b x = { x with oLight := 0 } := by
  simp [voiceTick, h]

/-- Settles O28: of a disconnected tick only the light is written. -/
theorem disconnectedVoiceIsFrozen : Obligations.DisconnectedVoiceIsFrozen :=
  fun v _ s hdt hsr hlen hconn => exec_voiceCommand_next.mpr
    ⟨⟨⟨hdt, hsr⟩, hlen⟩, by rw [voiceTick_disconnected hconn, State.setVoice]⟩

/-! ### A connected tick in the words of the claims -/

/-- R120: button or edge. -/
theorem voiceFire_eq (b : VoiceOps) (x : Voice) : voiceFire b x = decide (VoiceFires b x) := by
  rw [voiceFire, edProc_eq, Bool.decide_or]
  rfl

/-- R108: the two results of the lockout. -/
theorem lockout_decide_eq (fires : Prop) [Decidable fires] (prev lock sr : Q) :
    lockout (decide fires) prev lock sr =
      (decide (fires ∧ (prev = 0 ∨ lock ≤ 0)),
        if fires ∧ (prev = 0 ∨ lock ≤ 0) then sr / 4
        else if fires then max 0 (min (lock - 1) sr) else lock) := by
  by_cases hf : fires
  · by_cases hg : prev = 0 ∨ lock ≤ 0
    · simp [hf, hg, lockout_act sr hg]
    · obtain ⟨hprev, hlock⟩ := not_or.mp hg
      simp [hf, hg, lockout_wait sr hprev (not_le.mp hlock), clamp]
  · simp [hf, lockout]

/-- R122: whether the voice re-triggers, and its lockout after the trigger step. -/
theorem voice_lockout_eq (v : Fin 5) (b : VoiceOps) (x : Voice) :
    lockout (voiceFire b x) x.prevTrig x.lock b.sr =
      (decide (VoiceGoes b x), (voiceAfter v b x).lock) := by
  rw [voiceFire_eq, lockout_decide_eq]
  rfl

/-- R103: a pulse generator after a trigger that may not come. -/
theorem pgTrig_armed (goes : Bool) (c : Pg) (d : Q) :
    (if goes then c.trig d else c) = { rem := armed goes c.rem d } := by
  cases goes with
  | false => rfl
  | true =>
    by_cases h : c.rem < d
    · simp [Pg.trig, armed, h]
    · simp [Pg.trig, armed, h]

/-- R105: a ramp after a clear that may not come. -/
theorem rpClr_if (goes : Prop) [Decidable goes] (c : Rp) :
    (if decide goes then c.clr else c) = { val := if goes then 0 else c.val } := by
  by_cases h : goes
  · simp [h, Rp.clr]
  · simp [h]

theorem KA_eq_primaryExponent : ∀ v : Fin 5, KA[v] = primaryExponent v := by decide

/-- R120 to R126: a connected tick, the lockout and each cell operation in the words of the claims. -/
theorem voiceTick_connected {b : VoiceOps} (h : b.trigConn = true) (v : Fin 5) (x : Voice) :
    voiceTick v b x = voiceAfter v b x := by
  rw [voiceTick, if_pos h, voiceTrigger, voice_lockout_eq v, edProc_eq, voiceOutputs, voiceAdvance]
  simp only [rpClr_if, pgTrig_armed, pgProc_eq, KA_eq_primaryExponent]
  rfl

/-- R120: what a connected tick answers. -/
theorem exec_voiceCommand_connected {v : Fin 5} {b : VoiceOps} {s t : State} (h : b.trigConn = true) :
    exec (voiceCommand v b) s = .next t ↔
      (LegalRate b.dt b.sr ∧ b.lengthParam < 7) ∧ t = s.setVoice v (voiceAfter v b s.voice[v]) := by
  rw [exec_voiceCommand_next, voiceTick_connected h]

/-- Settles O27: the connected tick's result. -/
theorem voiceTickResult : Obligations.VoiceTickResult :=
  fun _ _ _ hdt hsr hlen hconn =>
    (exec_voiceCommand_connected hconn).mpr ⟨⟨⟨hdt, hsr⟩, hlen⟩, rfl⟩

/-! ### Ramps, envelopes and levels -/

theorem pulse_level (rem : Q) : pulse rem = 0 ∨ pulse rem = 1 :=
  (ite_eq_or_eq (0 < rem) 1 0).symm

/-- R123, R128: without a re-trigger the amplitude ramp only advances, at a positive rate. -/
theorem le_voiceAmp {b : VoiceOps} {x : Voice} (hgo : ¬ VoiceGoes b x) (hdt : 0 ≤ b.dt)
    (hlen : b.lengthParam < 7) (hx : InUnit x.amp.val) : x.amp.val ≤ voiceAmp b x := by
  rw [voiceAmp, if_neg hgo]
  exact Rp.adv_mono hx (mul_nonneg (gateRatio_pos hlen).le hdt)

/-- R123, R128: without a re-trigger the oscillator ramp only advances. -/
theorem le_voiceOsc {b : VoiceOps} {x : Voice} (hgo : ¬ VoiceGoes b x) (hdt : 0 ≤ b.dt)
    (hx : InUnit x.osc.val) : x.osc.val ≤ voiceOsc b x := by
  rw [voiceOsc, if_neg hgo]
  exact Rp.adv_mono hx (mul_nonneg (by norm_num) hdt)

/-- Settles O29: the clamp and the envelopes of the claims are the model's, so they have its ranges, and
a ramp not cleared only advances. -/
theorem voiceRampsRiseAndStayInUnit : Obligations.VoiceRampsRiseAndStayInUnit := by
  intro v b s t hconn h
  obtain ⟨⟨⟨hdt, -⟩, hlen⟩, rfl⟩ := (exec_voiceCommand_connected hconn).mp h
  rw [setVoice_get_self]
  exact ⟨clamp_unit _, clamp_unit _, env_unit _ _, secondEnv_unit v _, env_unit _ _, pulse_level _,
    fun hgo hamp hosc => ⟨le_voiceAmp hgo hdt hlen hamp, le_voiceOsc hgo hdt hosc⟩⟩

/-! ### The gate pulse -/

theorem execAll_cons_of_next {i : Instr} {s t : State} (h : exec i s = .next t) (is : List Instr) :
    execAll (i :: is) s = execAll is t := by
  rw [execAll, h]

/-- R68, R120: equal connected ticks of a voice, one after the other. -/
theorem execAll_replicate_voiceCommand {b : VoiceOps} (hconn : b.trigConn = true)
    (hlegal : LegalRate b.dt b.sr ∧ b.lengthParam < 7) (v : Fin 5) (n : Nat) (s : State) :
    ∃ t : State, execAll (List.replicate n (voiceCommand v b)) s = .next t ∧
      t.voice[v] = (voiceAfter v b)^[n] s.voice[v] := by
  induction n generalizing s with
  | zero => exact ⟨s, rfl, rfl⟩
  | succ n ih =>
    have hexec := (exec_voiceCommand_connected (v := v) (s := s) hconn).mpr ⟨hlegal, rfl⟩
    obtain ⟨t, ht, hvoice⟩ := ih (s.setVoice v (voiceAfter v b s.voice[v]))
    refine ⟨t, ?_, ?_⟩
    · rw [List.replicate_succ, execAll_cons_of_next hexec, ht]
    · rw [hvoice, setVoice_get_self, Function.iterate_succ_apply]

/-- R125: the gate is the level of the pulse generator as the trigger step leaves it. -/
theorem voiceAfter_pg_gate (v : Fin 5) (b : VoiceOps) (x : Voice) :
    ((voiceAfter v b x).pg, (voiceAfter v b x).oGate) =
      ({ rem := voicePulse b x } : Pg).proc b.dt :=
  (pgProc_eq _ _).symm

/-- R122: a re-trigger at rest arms the whole pulse. -/
theorem voicePulse_of_goes {b : VoiceOps} {x : Voice} (hgo : VoiceGoes b x) (hrest : x.pg.rem ≤ 0)
    (hlen : b.lengthParam < 7) : voicePulse b x = 1 / (7 - b.lengthParam) := by
  have hpos : 0 < 1 / (7 - b.lengthParam) := one_div_pos.mpr (gateRatio_pos hlen)
  exact if_pos ⟨decide_eq_true hgo, hrest.trans_lt hpos⟩

theorem voicePulse_of_not_goes {b : VoiceOps} {x : Voice} (hgo : ¬ VoiceGoes b x) :
    voicePulse b x = x.pg.rem :=
  if_neg fun h => hgo (of_decide_eq_true h.1)

/-- R120: neither the button nor the trigger input at 0 fires a voice. -/
theorem not_voiceGoes_of_zero {b : VoiceOps} (hbutton : b.trigParam = 0) (hin : b.trigIn = 0)
    (x : Voice) : ¬ VoiceGoes b x := by
  simp only [VoiceGoes, VoiceFires, Edge, hbutton, hin]
  norm_num

/-- R104, R125: `n` ticks without a re-trigger continue the pulse that a tick of the generator `c` has
begun. -/
theorem iterate_voiceAfter_gate {b : VoiceOps} (hquiet : ∀ x, ¬ VoiceGoes b x) (v : Fin 5) (n : Nat)
    {c : Pg} {x : Voice} (h : (x.pg, x.oGate) = c.proc b.dt) :
    ((voiceAfter v b)^[n] x).oGate = (((fun c : Pg => (c.proc b.dt).1)^[n] c).proc b.dt).2 := by
  induction n generalizing c x with
  | zero => exact congrArg Prod.snd h
  | succ n ih =>
    have hpg : x.pg = (c.proc b.dt).1 := congrArg Prod.fst h
    rw [Function.iterate_succ_apply, Function.iterate_succ_apply, ← hpg]
    apply ih
    rw [voiceAfter_pg_gate, voicePulse_of_not_goes (hquiet x)]

/-- Settles O30: the re-trigger arms the pulse generator with `1/gr`, the ticks after it only process
it, and the pulse has the length of R104. -/
theorem gatePulseLength : Obligations.GatePulseLength := by
  rintro v b c n s hdt hsr hlen hconn hgo hrest rfl
  have hlegal : LegalRate b.dt b.sr ∧ b.lengthParam < 7 := ⟨⟨hdt.le, hsr⟩, hlen⟩
  have hfirst := (exec_voiceCommand_connected (v := v) (s := s) hconn).mpr ⟨hlegal, rfl⟩
  have hstart := voiceAfter_pg_gate v b s.voice[v]
  rw [voicePulse_of_goes hgo hrest hlen] at hstart
  have hgate := iterate_voiceAfter_gate (b := { b with trigParam := 0, trigIn := 0 })
    (not_voiceGoes_of_zero rfl rfl) v n hstart
  obtain ⟨t, ht, hvoice⟩ := execAll_replicate_voiceCommand (b := { b with trigParam := 0, trigIn := 0 })
    hconn hlegal v n (s.setVoice v (voiceAfter v b s.voice[v]))
  refine ⟨t, by rw [execAll_cons_of_next hfirst, ht], ?_⟩
  rw [hvoice, setVoice_get_self, hgate]
  exact pulseLength.2 _ _ n (one_div_pos.mpr (gateRatio_pos hlen)) hdt

end Sys2Proof.Proofs
end

section
/-!
PROOFS. The family 42_effects_stateless: the wrapper of the five effects (spec/42_effects_stateless R141
to R143), the bitcrusher (R144, R145), the distorter (R146, R147) and the decimator
(spec/47_adjacent_units R250). What the wrapper answers is said once for a skipped and once for a
connected tick; each command's result is the wrapper's on that command's own effect.
-/

namespace Sys2Proof.Proofs

open Sys2Proof Sys2Proof.Machine Sys2Proof.Safety Sys2Proof.Claims

/-! ### The wrapper -/

theorem fxProblem_none (b : FxOps) : fxProblem b = none ↔ LegalRate b.dt b.sr :=
  rateProblem_none b.dt b.sr

/-- R109, R142: the model's intensity in the words of the claims. -/
theorem intensity_eq_effectIntensity (b : FxOps) : intensity b = effectIntensity b := by
  rw [intensity, quantity, effectIntensity]
  split_ifs <;> rfl

/-- R88, R141: an effect that is skipped with legal operands. -/
theorem fxWrapper_skipped {p : Option OperandProblem} (hp : p = none) {b : FxOps}
    (h : ¬ Connected b) (e : Fin 5) (effect : Q → Except Fault (State × Q)) (s : State) :
    withLegal p (fxWrapper e b effect s) = .next s :=
  withLegal_next.mpr ⟨hp, fxWrapper_next.mpr (.inl ⟨by simpa [or_iff_not_imp_left] using h, rfl⟩)⟩

/-- R88, R142, R143: an effect that runs with legal operands, in the words of the claims. -/
theorem fxWrapper_connected {p : Option OperandProblem} (hp : p = none) {b : FxOps}
    (h : Connected b) {e : Fin 5} {effect : Q → Except Fault (State × Q)} {s t : State} {y : Q}
    (he : effect (effectIntensity b) = .ok (t, y)) :
    withLegal p (fxWrapper e b effect s) = .next (t.setFxOut e (blend b.inp y b.wet)) := by
  obtain ⟨hin, hout⟩ := h
  rw [← intensity_eq_effectIntensity] at he
  exact withLegal_next.mpr ⟨hp, fxWrapper_next.mpr (.inr ⟨hin, hout, t, y, he, rfl⟩)⟩

/-- Settles O31: each of the five is the wrapper behind the legality guard. -/
theorem skippedEffectChangesNothing : Obligations.SkippedEffectChangesNothing := by
  intro b d s hdt hsr hconn
  have hfx : fxProblem b = none := (fxProblem_none b).mpr ⟨hdt, hsr⟩
  refine ⟨fxWrapper_skipped hfx hconn _ _ s, fxWrapper_skipped hfx hconn _ _ s,
    fxWrapper_skipped hfx hconn _ _ s, fun hstart hlen => ?_⟩
  have hdraw : fxDrawProblem b d = none := (fxDrawProblem_none b d).mpr ⟨⟨hdt, hsr⟩, hstart, hlen⟩
  exact ⟨fxWrapper_skipped hdraw hconn _ _ s, fxWrapper_skipped hdraw hconn _ _ s⟩

/-! ### The bitcrusher -/

/-- Settles O32: the wrapper's result on the crushed sample. -/
theorem bitcrushResult : Obligations.BitcrushResult := fun b _ hdt hsr hconn =>
  fxWrapper_connected ((fxProblem_none b).mpr ⟨hdt, hsr⟩) hconn rfl

theorem crushStep_pos (q : Q) : 0 < crushStep q := Config.exp2_pos _

/-- R145: a crushed sample is off by the rounding's error, scaled by the step. -/
theorem crush_near (inp q : Q) : |crush inp q - inp| ≤ crushStep q / 2 := by
  have hpos := crushStep_pos q
  have hround := (roundHalfAwayFromZero (inp / crushStep q)).1
  have hinp : inp = inp / crushStep q * crushStep q := (div_mul_cancel₀ inp hpos.ne').symm
  calc |crush inp q - inp|
      = |(roundHaz (inp / crushStep q) - inp / crushStep q) * crushStep q| := by
        rw [sub_mul, ← hinp, crush]
    _ = |inp / crushStep q - roundHaz (inp / crushStep q)| * crushStep q := by
        rw [abs_mul, abs_of_pos hpos, abs_sub_comm]
    _ ≤ 1 / 2 * crushStep q := mul_le_mul_of_nonneg_right hround hpos.le
    _ = crushStep q / 2 := by ring

/-- R12: what is nearer to 0 than a half rounds to 0. -/
theorem roundHaz_eq_zero {x : Q} (h : |x| < 1 / 2) : roundHaz x = 0 := by
  have hfloor : ⌊|x| + 1 / 2⌋ = 0 :=
    Int.floor_eq_zero_iff.mpr ⟨by positivity, by linarith⟩
  rw [roundHaz, hfloor, mul_zero]

/-- R145: an input nearer to 0 than half a step gives silence. -/
theorem crush_eq_zero {inp q : Q} (h : |inp| < crushStep q / 2) : crush inp q = 0 := by
  have hpos := crushStep_pos q
  have hquot : |inp / crushStep q| < 1 / 2 := by
    rw [abs_div, abs_of_pos hpos, div_lt_iff₀ hpos]
    linarith
  rw [crush, roundHaz_eq_zero hquot, Int.cast_zero, zero_mul]

/-- R111, R145: the step is exact where its exponent is an integer. -/
theorem crushStep_of_exponent {q : Q} {n : Int} (h : 8 - (1 / 5 + q) * 8 = (n : Q)) :
    crushStep q = 2 ^ n := by
  rw [← Config.exp2_int, ← h]
  rfl

/-- R145: at intensity 0 the exponent is above 6. -/
theorem crushStep_zero_ge : 64 ≤ crushStep 0 := by
  calc (64 : Q) = Config.exp2 ((6 : Int) : Q) := by rw [Config.exp2_int]; norm_num
    _ ≤ crushStep 0 := Config.exp2_mono (by norm_num [BC_BITS, BC_OFF])

/-- Settles O33: the error of the rounding, the three integer exponents 0, 6 and -1, and a step of at
least 64 at intensity 0. -/
theorem bitcrushQuantizes : Obligations.BitcrushQuantizes := by
  refine ⟨fun inp q => ⟨⟨_, rfl⟩, crush_near inp q⟩, ?_, ?_, ?_, fun inp h => crush_eq_zero ?_⟩
  · rw [crushStep_of_exponent (n := 0) (by norm_num), zpow_zero]
  · rw [crushStep_of_exponent (n := 6) (by norm_num)]
    norm_num
  · rw [crushStep_of_exponent (n := -1) (by norm_num)]
    norm_num
  · linarith [crushStep_zero_ge]

/-! ### The distorter -/

/-- Settles O34: the wrapper's result on the distorted sample. -/
theorem distortResult : Obligations.DistortResult := fun b _ hdt hsr hconn =>
  fxWrapper_connected ((fxProblem_none b).mpr ⟨hdt, hsr⟩) hconn rfl

theorem distort_neg (inp q : Q) : distort (-inp) q = -distort inp q := by
  rw [distort, neg_mul, Config.tanh_neg, distort]

/-- R147: `TANH` is non-decreasing through `TANH(0) = 0`, and the drive is not negative. -/
theorem distort_nonneg {inp q : Q} (hq : 0 ≤ q) (h : 0 ≤ inp) : 0 ≤ distort inp q := by
  have hdrive : 0 ≤ inp * (q * DRIVE_MAX) := by rw [DRIVE_MAX]; positivity
  calc 0 = Config.tanh 0 := Config.tanh_zero.symm
    _ ≤ distort inp q := Config.tanh_mono hdrive

theorem distort_nonpos {inp q : Q} (hq : 0 ≤ q) (h : inp ≤ 0) : distort inp q ≤ 0 := by
  have hneg := distort_nonneg hq (neg_nonneg.mpr h)
  rw [distort_neg] at hneg
  exact neg_nonneg.mp hneg

theorem distort_zero_intensity (inp : Q) : distort inp 0 = 0 := by
  rw [distort, zero_mul, mul_zero, Config.tanh_zero]

/-- Settles O35: `TANH` is bounded, odd and non-decreasing, and the drive is 0 at intensity 0. -/
theorem distortIsBoundedAndOdd : Obligations.DistortIsBoundedAndOdd := fun inp q ⟨hq, _⟩ =>
  ⟨⟨Config.neg_one_le_tanh _, Config.tanh_le_one _⟩, distort_neg inp q, distort_nonneg hq,
    distort_nonpos hq, distort_zero_intensity inp⟩

/-! ### The decimator -/

/-- R250: the hold length and the counter in the words of the claims. -/
theorem holdLength_le_succ_iff {q : Q} (hq : 0 ≤ q) (n : Nat) :
    holdLength q ≤ n + 1 ↔ ⌊q * 32⌋ ≤ (n : Int) + 1 := by
  have hfloor : (holdLength q : Int) = ⌊q * 32⌋ :=
    Int.natCast_floor_eq_floor (mul_nonneg hq (by norm_num [DEC_MAX]))
  rw [← hfloor]
  omega

/-- R250: the tick re-samples. -/
theorem decimate_resample {q : Q} (hq : 0 ≤ q) {d : Decim} (h : ⌊q * 32⌋ ≤ (d.cnt : Int) + 1)
    (inp : Q) : decimate inp q d = { cnt := 0, held := inp } :=
  if_pos ((holdLength_le_succ_iff hq d.cnt).mpr h)

/-- R250: the tick holds. -/
theorem decimate_hold {q : Q} (hq : 0 ≤ q) {d : Decim} (h : ¬ ⌊q * 32⌋ ≤ (d.cnt : Int) + 1)
    (inp : Q) : decimate inp q d = { d with cnt := d.cnt + 1 } :=
  if_neg fun hle => h ((holdLength_le_succ_iff hq d.cnt).mp hle)

theorem effectIntensity_nonneg (b : FxOps) : 0 ≤ effectIntensity b :=
  intensity_eq_effectIntensity b ▸ (intensity_unit b).1

/-- R142, R143, R250: a connected tick of the decimator. -/
theorem exec_tickDecimate_connected {b : FxOps} (hlegal : LegalRate b.dt b.sr) (hconn : Connected b)
    {s : State} {d : Decim} (hd : decimate b.inp (effectIntensity b) s.decim = d) :
    exec (.tickDecimate b) s =
      .next ((s.setDecim d).setFxOut 1 (blend b.inp d.held b.wet)) :=
  fxWrapper_connected ((fxProblem_none b).mpr hlegal) hconn (by rw [hd])

/-- Settles O36: a re-sample holds the input, and the blend of the input with itself is the input; a
hold counts up. -/
theorem decimateResult : Obligations.DecimateResult := by
  intro b s hdt hsr hconn
  have hq := effectIntensity_nonneg b
  split_ifs with h
  · rw [exec_tickDecimate_connected ⟨hdt, hsr⟩ hconn (decimate_resample hq h b.inp)]
    have hblend : blend b.inp b.inp b.wet = b.inp := xfade_self b.inp b.wet
    rw [hblend]
    rfl
  · exact exec_tickDecimate_connected ⟨hdt, hsr⟩ hconn (decimate_hold hq h b.inp)

end Sys2Proof.Proofs
end

section
/-!
PROOFS. The family 43_effects_buffered: the glitch (spec/43_effects_buffered R160 to R165) and the crop
(R170 to R174). Each effect has one equation per phase and one lemma that carries it through the wrapper
to the command. The runs share one induction over the ticks, `execAll_map_run`; what a phase of the
glitch leaves in the buffer is said once, as `BlockWritten`.
-/

namespace Sys2Proof.Proofs

open Sys2Proof Sys2Proof.Machine Sys2Proof.Safety Sys2Proof.Claims

/-! ### Facts shared by both effects -/

/-- R162, R171: a window of threshold `x` is `⌈x⌉` ticks long. -/
theorem natCast_lt_ceil {n : Nat} {x : Q} : (n : Int) < ⌈x⌉ ↔ (n : Q) < x := by
  rw [Int.lt_ceil, Int.cast_natCast]

/-- R143: an effect that answers its input is not heard. -/
theorem blend_self (x wet : Q) : blend x x wet = x := xfade_self x wet

theorem setFxOut_get_self (s : State) (e : Fin 5) (x : Q) : (s.setFxOut e x).fxOut[e] = x := by
  rw [State.setFxOut_get, if_pos rfl]

/-- R68: one more command after a run that has completed. -/
theorem execAll_concat_of_next {is : List Instr} {s t : State} (h : execAll is s = .next t)
    (i : Instr) : execAll (is ++ [i]) s = exec i t := by
  induction is generalizing s with
  | nil =>
    cases h
    simp only [List.nil_append, execAll]
    cases exec i t <;> rfl
  | cons j js ih =>
    cases hj : exec j s with
    | next r =>
      rw [execAll_cons_of_next hj] at h
      rw [List.cons_append, execAll_cons_of_next hj, ih h]
    | fault f => simp [execAll, hj] at h
    | refused r => simp [execAll, hj] at h

/-- R68: the induction over a run of ticks, on the ticks done so far: what holds before the first and is
kept by every further one holds after the run, and the run completes. -/
theorem execAll_map_run {α : Type} {tick : α → Instr} {Run : List α → State → Prop} {ops : List α}
    {s : State} (nil : Run [] s)
    (concat : ∀ {os : List α} {o : α} {t : State}, o ∈ ops → os.length < ops.length → Run os t →
      ∃ t', exec (tick o) t = .next t' ∧ Run (os ++ [o]) t') :
    ∃ t, execAll (ops.map tick) s = .next t ∧ Run ops t := by
  induction ops using List.reverseRecOn with
  | nil => exact ⟨s, rfl, nil⟩
  | append_singleton os o ih =>
    obtain ⟨t, hexec, hrun⟩ := ih fun hmem hlen => concat (by simp [hmem]) (by simp; omega)
    obtain ⟨t', htick, hrun'⟩ := concat (o := o) (by simp) (by simp) hrun
    exact ⟨t', by rw [List.map_append, List.map_singleton, execAll_concat_of_next hexec, htick], hrun'⟩

/-! ### One tick of the glitch -/

theorem CAP_cast : (CAP : Q) = 24000 := by norm_num [CAP]

/-- R161: the glitch after a fill tick. -/
def glitchFilled (inp : Q) (g : Glitch) : Glitch :=
  { g with buf := g.buf.write g.wr inp, wr := g.wr + 1, filling := decide (g.wr + 1 ≠ CAP) }

/-- R162: the glitch after a replay tick. -/
def glitchReplayed (inp : Q) (g : Glitch) : Glitch :=
  { g with buf := g.buf.write g.rd inp, rd := g.rd + 1 }

theorem glitchEffect_fill {g : Glitch} (hf : g.filling = true) (hwr : g.wr < CAP) (inp q : Q)
    (d : FxDraws) : glitchEffect inp q d g = .ok (glitchFilled inp g, inp) := by
  simpa [hf, hwr, hwr.not_ge, glitchFilled] using glitchEffect_cases inp q d g

theorem glitchEffect_replay {g : Glitch} (hf : g.filling = false) (hthr : (g.rd : Q) < g.thr)
    (hrd : g.rd < CAP) (inp q : Q) (d : FxDraws) :
    glitchEffect inp q d g = .ok (glitchReplayed inp g, g.buf.read g.rd) := by
  simpa [hf, hthr, hthr.not_ge, hrd, hrd.not_ge, glitchReplayed] using glitchEffect_cases inp q d g

theorem glitchEffect_idle {g : Glitch} (hf : g.filling = false) (hthr : g.thr ≤ (g.rd : Q))
    (inp q : Q) (d : FxDraws) :
    glitchEffect inp q d g =
      .ok (if d.uStart < q then { g with thr := glitchThreshold q d.uLen, rd := 0 } else g, inp) := by
  split_ifs with hdraw
  · simpa [hf, hthr, hthr.not_gt, hdraw, hdraw.not_ge] using glitchEffect_cases inp q d g
  · simpa [hf, hthr, hthr.not_gt, hdraw, not_lt.mp hdraw] using glitchEffect_cases inp q d g

/-- R142, R143, R160: a connected tick of the glitch. -/
theorem exec_tickGlitch_connected {b : FxOps} {d : FxDraws}
    (hlegal : LegalOperands (.tickGlitch b d)) (hconn : Connected b) {s : State} {g : Glitch} {y : Q}
    (he : glitchEffect b.inp (effectIntensity b) d s.glitch = .ok (g, y)) :
    exec (.tickGlitch b d) s = .next ((s.setGlitch g).setFxOut 3 (blend b.inp y b.wet)) :=
  fxWrapper_connected ((fxDrawProblem_none b d).mpr hlegal) hconn (by rw [he])

theorem exec_tickGlitch_fill {b : FxOps} {d : FxDraws} (hlegal : LegalOperands (.tickGlitch b d))
    (hconn : Connected b) {s : State} (hf : s.glitch.filling = true) (hwr : s.glitch.wr < CAP) :
    exec (.tickGlitch b d) s =
      .next ((s.setGlitch (glitchFilled b.inp s.glitch)).setFxOut 3 b.inp) := by
  rw [exec_tickGlitch_connected hlegal hconn (glitchEffect_fill hf hwr _ _ d), blend_self]

theorem exec_tickGlitch_replay {b : FxOps} {d : FxDraws} (hlegal : LegalOperands (.tickGlitch b d))
    (hconn : Connected b) {s : State} (hf : s.glitch.filling = false)
    (hthr : (s.glitch.rd : Q) < s.glitch.thr) (hrd : s.glitch.rd < CAP) :
    exec (.tickGlitch b d) s =
      .next ((s.setGlitch (glitchReplayed b.inp s.glitch)).setFxOut 3
        (blend b.inp (s.glitch.buf.read s.glitch.rd) b.wet)) :=
  exec_tickGlitch_connected hlegal hconn (glitchEffect_replay hf hthr hrd _ _ d)

/-- Settles O38: the write is at an element of the buffer, and the blend of the input with itself is the
input. -/
theorem glitchFillTick : Obligations.GlitchFillTick := fun _ _ _ hlegal hconn hwf hf hwr =>
  ⟨_, exec_tickGlitch_fill hlegal hconn hf hwr, Memory.wf_write hwf hwr _, Memory.read_write hwf _ _⟩

/-- Settles O39: the old element is read before the write at the same cursor. -/
theorem glitchReplayTick : Obligations.GlitchReplayTick := fun _ _ _ hlegal hconn hwf hf hthr hrd =>
  ⟨_, exec_tickGlitch_replay hlegal hconn hf hthr hrd, Memory.wf_write hwf hrd _,
    Memory.read_write hwf _ _⟩

/-- Settles O40: the idle phase of the effect, its threshold in the numbers of R163. -/
theorem glitchIdleTick : Obligations.GlitchIdleTick := by
  intro b d s hlegal hconn hf hthr
  rw [exec_tickGlitch_connected hlegal hconn (glitchEffect_idle hf hthr _ _ d), blend_self,
    glitchThreshold, CAP_cast]
  rfl

/-! ### Runs of the glitch -/

/-- R161, R162, R164: `m'` is the buffer `m` with the inputs of the ticks `ops` at the addresses from `a`
on, one each in order. -/
structure BlockWritten (m : Memory) (a : Nat) (ops : List (FxOps × FxDraws)) (m' : Memory) : Prop where
  wf : m'.wf = true
  written : ∀ (n : Nat) (o : FxOps × FxDraws), ops[n]? = some o → m'.read (a + n) = o.1.inp
  kept : ∀ i, i < a ∨ a + ops.length ≤ i → m'.read i = m.read i

theorem BlockWritten.nil {m : Memory} (h : m.wf = true) (a : Nat) : BlockWritten m a [] m :=
  ⟨h, by simp, fun _ _ => rfl⟩

theorem BlockWritten.concat {m m' : Memory} {a : Nat} {ops : List (FxOps × FxDraws)}
    (h : BlockWritten m a ops m') (hcap : a + ops.length < CAP) (o : FxOps × FxDraws) :
    BlockWritten m a (ops ++ [o]) (m'.write (a + ops.length) o.1.inp) where
  wf := Memory.wf_write h.wf hcap _
  written n p hp := by
    rw [Memory.read_write h.wf]
    split_ifs with hn
    · obtain rfl : n = ops.length := by omega
      rw [List.getElem?_concat_length] at hp
      cases hp
      rfl
    · have hlt : n < ops.length := by
        have := (List.getElem?_eq_some_iff.mp hp).1
        rw [List.length_append, List.length_singleton] at this
        omega
      exact h.written n p (List.getElem?_append_left hlt ▸ hp)
  kept i hi := by
    rw [List.length_append, List.length_singleton] at hi
    rw [Memory.read_write h.wf, if_neg (by omega)]
    exact h.kept i (by omega)

/-- R161, R165: `t` is `s` after the fill ticks `ops`. -/
structure FillRun (s : State) (ops : List (FxOps × FxDraws)) (t : State) : Prop where
  wr : t.glitch.wr = s.glitch.wr + ops.length
  filling : t.glitch.filling = true ↔ t.glitch.wr ≠ CAP
  rd : t.glitch.rd = s.glitch.rd
  thr : t.glitch.thr = s.glitch.thr
  buf : BlockWritten s.glitch.buf s.glitch.wr ops t.glitch.buf
  out : ∀ o, ops.getLast? = some o → t.fxOut[(3 : Fin 5)] = o.1.inp

theorem FillRun.concat {s t : State} {os : List (FxOps × FxDraws)} (h : FillRun s os t)
    (hcap : s.glitch.wr + os.length < CAP) {o : FxOps × FxDraws}
    (ho : LegalOperands (.tickGlitch o.1 o.2) ∧ Connected o.1) :
    ∃ t', exec (.tickGlitch o.1 o.2) t = .next t' ∧ FillRun s (os ++ [o]) t' := by
  have hwr : t.glitch.wr < CAP := h.wr ▸ hcap
  have hbuf := h.buf.concat hcap o
  rw [← h.wr] at hbuf
  refine ⟨_, exec_tickGlitch_fill ho.1 ho.2 (h.filling.mpr hwr.ne) hwr, ?_⟩
  exact {
    wr := by simp [glitchFilled, h.wr, add_assoc]
    filling := decide_eq_true_iff
    rd := h.rd
    thr := h.thr
    buf := hbuf
    out := fun p hp => by
      obtain rfl : o = p := by simpa using hp
      exact setFxOut_get_self _ _ _ }

/-- Settles O41: no tick of the run passes the capacity, so each of them fills. -/
theorem glitchFillRun : Obligations.GlitchFillRun := by
  intro ops s hops hwf hf hwr hlen
  have hstart : FillRun s [] s :=
    ⟨rfl, iff_of_true hf hwr.ne, rfl, rfl, .nil hwf _, by simp⟩
  obtain ⟨t, hexec, hrun⟩ := execAll_map_run (Run := FillRun s) hstart fun hmem hlt h =>
    h.concat ((Nat.add_lt_add_left hlt _).trans_le hlen) (hops _ hmem)
  have hfull : t.glitch.wr ≠ CAP ↔ t.glitch.wr < 24000 := by rw [hrun.wr, CAP]; omega
  exact ⟨t, hexec, hrun.wr, hrun.filling.trans hfull, hrun.rd, hrun.thr, hrun.buf.written,
    hrun.buf.kept, hrun.out⟩

/-- R162, R164: `t` is `s` after the ticks `ops` of a window that starts in `s`. -/
structure ReplayRun (s : State) (ops : List (FxOps × FxDraws)) (t : State) : Prop where
  rd : t.glitch.rd = ops.length
  filling : t.glitch.filling = false
  thr : t.glitch.thr = s.glitch.thr
  wr : t.glitch.wr = s.glitch.wr
  buf : BlockWritten s.glitch.buf 0 ops t.glitch.buf
  out : ∀ o, ops.getLast? = some o →
    t.fxOut[(3 : Fin 5)] = blend o.1.inp (s.glitch.buf.read (ops.length - 1)) o.1.wet

theorem ReplayRun.concat {s t : State} {os : List (FxOps × FxDraws)} (h : ReplayRun s os t)
    (hthr : (os.length : Q) < s.glitch.thr) (hcap : os.length < CAP) {o : FxOps × FxDraws}
    (ho : LegalOperands (.tickGlitch o.1 o.2) ∧ Connected o.1) :
    ∃ t', exec (.tickGlitch o.1 o.2) t = .next t' ∧ ReplayRun s (os ++ [o]) t' := by
  have hopen : (t.glitch.rd : Q) < t.glitch.thr := by rwa [h.rd, h.thr]
  have hold : t.glitch.buf.read t.glitch.rd = s.glitch.buf.read os.length := by
    rw [h.rd, h.buf.kept _ (.inr (zero_add _).le)]
  have hbuf := h.buf.concat (by rwa [zero_add]) o
  rw [zero_add, ← h.rd] at hbuf
  refine ⟨_, exec_tickGlitch_replay ho.1 ho.2 h.filling hopen (h.rd ▸ hcap), ?_⟩
  exact {
    rd := by simp [glitchReplayed, h.rd]
    filling := h.filling
    thr := h.thr
    wr := h.wr
    buf := hbuf
    out := fun p hp => by
      obtain rfl : o = p := by simpa using hp
      rw [hold, setFxOut_get_self, List.length_append, List.length_singleton,
        Nat.add_sub_cancel] }

/-- Settles O42: every tick of the run is inside the window, whose threshold is below the capacity, so
each of them replays an element that no earlier one has overwritten. -/
theorem glitchReplayRun : Obligations.GlitchReplayRun := by
  intro ops s hops hinv hf hrd hlen
  have hstart : ReplayRun s [] s := ⟨hrd, hf, rfl, rfl, .nil hinv.wf _, by simp⟩
  obtain ⟨t, hexec, hrun⟩ := execAll_map_run (Run := ReplayRun s) hstart
    fun {os _ _} hmem hlt h => by
      have hthr : (os.length : Q) < s.glitch.thr :=
        natCast_lt_ceil.mp ((Nat.cast_lt.mpr hlt).trans_le hlen)
      have hcap : os.length < CAP := Nat.cast_lt.mp (hthr.trans hinv.thrBelowCap)
      exact h.concat hthr hcap (hops _ hmem)
  have hend : (ops.length : Int) = ⌈s.glitch.thr⌉ ↔ t.glitch.thr ≤ (t.glitch.rd : Q) := by
    rw [hrun.thr, hrun.rd, ← not_lt, ← natCast_lt_ceil]
    omega
  refine ⟨t, hexec, hrun.rd, hrun.thr, hrun.wr, fun n o hn => ?_, fun a ha => ?_, hrun.out, hend⟩
  · simpa using hrun.buf.written n o hn
  · exact hrun.buf.kept a (.inr (by omega))

/-! ### The crop -/

/-- R142, R143, R170: a connected tick of the crop. -/
theorem exec_tickCrop_connected {b : FxOps} {d : FxDraws} (hlegal : LegalOperands (.tickCrop b d))
    (hconn : Connected b) {s : State} {c : Crop} {y : Q}
    (he : cropEffect b.inp (effectIntensity b) b.sr d s.crop = (c, y)) :
    exec (.tickCrop b d) s = .next ((s.setCrop c).setFxOut 4 (blend b.inp y b.wet)) :=
  fxWrapper_connected ((fxDrawProblem_none b d).mpr hlegal) hconn (by rw [he])

theorem cropEffect_active {c : Crop} (h : (c.cnt : Q) < c.thr) (inp q sr : Q) (d : FxDraws) :
    cropEffect inp q sr d c = ({ c with cnt := c.cnt + 1 }, inp * CROP_GAIN) :=
  if_pos h

theorem cropEffect_idle {c : Crop} (h : ¬ (c.cnt : Q) < c.thr) (inp q sr : Q) (d : FxDraws) :
    cropEffect inp q sr d c =
      (if d.uStart < q * CROP_P then { cnt := 0, thr := d.uLen * CROP_S * sr } else c, inp) := by
  simp [cropEffect, h, happens]

/-- R143, R171: the attenuated sample in the mix. -/
theorem blend_cropped (inp wet : Q) : blend inp (inp * CROP_GAIN) wet = inp * (1 - 99 / 100 * wet) := by
  rw [blend, CROP_GAIN]
  ring

/-- R171: a connected tick inside a window. -/
theorem exec_tickCrop_active {b : FxOps} {d : FxDraws} (hlegal : LegalOperands (.tickCrop b d))
    (hconn : Connected b) {s : State} (hopen : (s.crop.cnt : Q) < s.crop.thr) :
    exec (.tickCrop b d) s =
      .next ((s.setCrop { s.crop with cnt := s.crop.cnt + 1 }).setFxOut 4
        (b.inp * (1 - 99 / 100 * b.wet))) := by
  rw [exec_tickCrop_connected hlegal hconn (cropEffect_active hopen _ _ _ d), blend_cropped]

/-- Settles O43: the wrapper's result on the two phases of the effect. -/
theorem cropResult : Obligations.CropResult := by
  intro b d s hlegal hconn
  by_cases hopen : (s.crop.cnt : Q) < s.crop.thr
  · rw [if_pos hopen]
    exact exec_tickCrop_active hlegal hconn hopen
  · rw [if_neg hopen, exec_tickCrop_connected hlegal hconn (cropEffect_idle hopen _ _ _ d),
      blend_self]
    rfl

/-- R171, R174: `t` is `s` after the ticks `ops` of a window that starts in `s`. -/
structure CropRun (s : State) (ops : List (FxOps × FxDraws)) (t : State) : Prop where
  cnt : t.crop.cnt = ops.length
  thr : t.crop.thr = s.crop.thr
  out : ∀ o, ops.getLast? = some o → t.fxOut[(4 : Fin 5)] = o.1.inp * (1 - 99 / 100 * o.1.wet)

theorem CropRun.concat {s t : State} {os : List (FxOps × FxDraws)} (h : CropRun s os t)
    (hthr : (os.length : Q) < s.crop.thr) {o : FxOps × FxDraws}
    (ho : LegalOperands (.tickCrop o.1 o.2) ∧ Connected o.1) :
    ∃ t', exec (.tickCrop o.1 o.2) t = .next t' ∧ CropRun s (os ++ [o]) t' := by
  have hopen : (t.crop.cnt : Q) < t.crop.thr := by rwa [h.cnt, h.thr]
  refine ⟨_, exec_tickCrop_active ho.1 ho.2 hopen, ?_⟩
  exact {
    cnt := by simp [h.cnt]
    thr := h.thr
    out := fun p hp => by
      obtain rfl : o = p := by simpa using hp
      exact setFxOut_get_self _ _ _ }

/-- Settles O44: every tick of the run is inside the window. -/
theorem cropWindowRun : Obligations.CropWindowRun := by
  intro ops s hops hcnt hlen
  have hstart : CropRun s [] s := ⟨hcnt, rfl, by simp⟩
  obtain ⟨t, hexec, hrun⟩ := execAll_map_run (Run := CropRun s) hstart fun hmem hlt h =>
    h.concat (natCast_lt_ceil.mp ((Nat.cast_lt.mpr hlt).trans_le hlen)) (hops _ hmem)
  refine ⟨t, hexec, hrun.cnt, hrun.thr, hrun.out, ?_⟩
  rw [hrun.cnt, hrun.thr, natCast_lt_ceil]

end Sys2Proof.Proofs
end

section
/-!
PROOFS. The family 44_clock_divider: a STOPPED tick (spec/44_clock_divider R181), a RUNNING tick (R182 to
R184) and the pulses and outputs of both (R185, R186), one equation per part of the tick; then the master
pulse of a constant integer period. That run is an induction on the ticks done so far (`MasterRun`): it
keeps the counter, which is the number of ticks from the latest master tick on, and what can remain of the
pulse that tick has triggered (`MasterRem`).
-/

namespace Sys2Proof.Proofs

open Sys2Proof Sys2Proof.Machine Sys2Proof.Safety Sys2Proof.Claims

/-! ### One tick -/

/-- R180: what a tick with legal operands answers. -/
theorem exec_tickKlok {b : KlokOps} (h : LegalOperands (.tickKlok b)) (s : State) :
    exec (.tickKlok b) s = .next (s.setKlok (klokTick b s.klok)) :=
  withLegal_next.mpr ⟨(klokProblem_none b).mpr h, rfl⟩

/-- R185, R186: the pulses and the outputs in the words of the claims. -/
theorem klokOutputs_eq (dt : Q) (k : Klok) :
    klokOutputs dt k =
      klokAfter dt k.cnt k.period k.step k.rstArmed k.pgClk.rem k.pgRst.rem := by
  rw [klokOutputs, pgProc_eq, pgProc_eq]
  rfl

/-- R182: an armed flag triggers the reset pulse. -/
theorem klokStart_eq (k : Klok) :
    klokStart k =
      { k with pgRst := { rem := armed k.rstArmed k.pgRst.rem (1 / 1000) }, rstArmed := false } := by
  obtain ⟨cnt, period, step, rstArmed, pgClk, pgRst, oClk, oRst, oDiv, oLight⟩ := k
  rw [← pgTrig_armed]
  cases rstArmed with
  | false => rfl
  | true => rfl

/-- R183, R184: the counters and the master pulse in the words of the claims. -/
theorem klokCount_eq (b : KlokOps) (k : Klok) :
    klokCount b k =
      { k with
        cnt := if MasterTick b k then k.cnt + 1 - tickPeriod b else k.cnt + 1
        period := tickPeriod b
        step := if MasterTick b k then Fin.ofNat 8 (k.step.val + 1) else k.step
        pgClk := { rem := armed (decide (MasterTick b k)) k.pgClk.rem (1 / 1000) } } := by
  rw [← pgTrig_armed]
  by_cases h : MasterTick b k
  · simp only [h, if_true, decide_true]
    exact if_pos h
  · simp only [h, if_false, decide_false]
    exact if_neg h

/-- R181, R185, R186: a STOPPED tick of the clock divider. -/
theorem klokTick_stopped {b : KlokOps} (h : b.run = false) (k : Klok) :
    klokTick b k = klokAfter b.dt 0 0 0 true k.pgClk.rem k.pgRst.rem := by
  rw [klokTick, h, klokOutputs_eq]
  rfl

/-- R182 to R186: a RUNNING tick of the clock divider. -/
theorem klokTick_running {b : KlokOps} (h : b.run = true) (k : Klok) :
    klokTick b k = klokAfter b.dt
      (if MasterTick b k then k.cnt + 1 - tickPeriod b else k.cnt + 1)
      (tickPeriod b)
      (if MasterTick b k then Fin.ofNat 8 (k.step.val + 1) else k.step)
      false
      (armed (decide (MasterTick b k)) k.pgClk.rem (1 / 1000))
      (armed k.rstArmed k.pgRst.rem (1 / 1000)) := by
  rw [klokTick, if_pos h, klokOutputs_eq, klokCount_eq, klokStart_eq]

/-- Settles O45: the STOPPED branch of the tick. -/
theorem klokStoppedTick : Obligations.KlokStoppedTick := by
  intro b s hdt hsr hrun
  have hlegal : LegalOperands (.tickKlok b) := ⟨⟨hdt, hsr⟩, by simp [hrun]⟩
  rw [exec_tickKlok hlegal, klokTick_stopped hrun]
  rfl

/-- Settles O46: the RUNNING branch of the tick. -/
theorem klokRunningTick : Obligations.KlokRunningTick := by
  intro b s hdt hsr hrun hbpm
  rw [exec_tickKlok ⟨⟨hdt, hsr⟩, fun _ => hbpm⟩, klokTick_running hrun]
  rfl

/-! ### The ticks from the latest master tick on -/

/-- R184: the counter after `n` ticks of integer period `P`. -/
def masterCount (P n : Nat) : Nat := n - P * ((n - 1) / P)

@[simp] theorem masterCount_zero (P : Nat) : masterCount P 0 = 0 := Nat.zero_sub _

theorem masterCount_succ (P n : Nat) : masterCount P (n + 1) = n % P + 1 := by
  have := Nat.div_add_mod n P
  rw [masterCount, Nat.add_sub_cancel]
  omega

theorem masterCount_self {P : Nat} (hP : 1 ≤ P) : masterCount P P = P := by
  rw [masterCount, Nat.div_eq_of_lt (by omega), mul_zero, Nat.sub_zero]

/-- R184: a counter below the period counts up, one at the period starts anew with the next step. -/
theorem masterCount_cases {P : Nat} (hP : 1 ≤ P) (n : Nat) :
    (masterCount P n < P ∧ masterCount P (n + 1) = masterCount P n + 1 ∧ n / P = (n - 1) / P) ∨
    (masterCount P n = P ∧ masterCount P (n + 1) = 1 ∧ n / P = (n - 1) / P + 1) := by
  cases n with
  | zero => exact .inl ⟨(masterCount_zero P).trans_lt hP, by simp [masterCount_succ], by simp⟩
  | succ m =>
    have hdm := Nat.div_add_mod m P
    have hlt := Nat.mod_lt m hP
    have hdm' := Nat.div_add_mod (m + 1) P
    rw [masterCount_succ, masterCount_succ, Nat.add_sub_cancel]
    by_cases h : P ∣ m + 1
    · have hdiv : (m + 1) / P = m / P + 1 := Nat.succ_div_of_dvd h
      rw [hdiv, mul_add, mul_one, Nat.mod_eq_zero_of_dvd h] at hdm'
      exact .inr ⟨by omega, by simp [Nat.mod_eq_zero_of_dvd h], hdiv⟩
    · have hdiv : (m + 1) / P = m / P := Nat.succ_div_of_not_dvd h
      rw [hdiv] at hdm'
      have hlt' := Nat.mod_lt (m + 1) hP
      exact .inl ⟨by omega, by omega, hdiv⟩

/-! ### What remains of the master pulse -/

/-- R103, R104: what `rem` the pulse generator can hold around tick `n`, when the latest master tick has
left `x` of its pulse (less than 0 where it is over) and the first one is tick `P + 1`. A pulse that ran
at the start, with `clk` remaining, can only make it more. -/
structure MasterRem (clk : Q) (P n : Nat) (x rem : Q) : Prop where
  ge : P < n → x ≤ rem
  le : clk ≤ 0 → 0 < rem → P < n ∧ rem ≤ x

theorem MasterRem.zero (clk x : Q) (P : Nat) : MasterRem clk P 0 x clk :=
  ⟨nofun, fun h h' => absurd h' h.not_gt⟩

/-- R184: a tick that is no master tick leaves the pulse. -/
theorem MasterRem.succ {clk x rem : Q} {P n : Nat} (h : MasterRem clk P n x rem) (hn : n ≠ P) :
    MasterRem clk P (n + 1) x rem where
  ge hlt := h.ge (by omega)
  le hclk hrem := (h.le hclk hrem).imp_left Nat.lt_succ_of_lt

/-- R103, R184: a master tick triggers the whole pulse, of which no more was left. -/
theorem MasterRem.trigger {clk x rem : Q} {P n : Nat} (h : MasterRem clk P n x rem)
    (hx : x ≤ 1 / 1000) (hn : P ≤ n) :
    MasterRem clk P (n + 1) (1 / 1000) (armed true rem (1 / 1000)) := by
  have hmax : armed true rem (1 / 1000) = max rem (1 / 1000) :=
    (congrArg Pg.rem (pgTrig_armed true ⟨rem⟩ _)).symm.trans (Pg.trig_rem ⟨rem⟩ _)
  have hle (hclk : clk ≤ 0) : rem ≤ 1 / 1000 := by
    rcases lt_or_ge 0 rem with hrem | hrem
    · exact (h.le hclk hrem).2.trans hx
    · exact hrem.trans (by norm_num)
  rw [hmax]
  exact ⟨fun _ => le_max_right _ _, fun hclk _ => ⟨Nat.lt_succ_of_le hn, max_le (hle hclk) le_rfl⟩⟩

/-- R104: the tick takes its `dt` off the pulse. -/
theorem MasterRem.process {clk x rem dt : Q} {P n : Nat} (h : MasterRem clk P n x rem)
    (hdt : 0 ≤ dt) : MasterRem clk P n (x - dt) (pulseAfter rem dt).rem := by
  by_cases hrem : 0 < rem
  · have hafter : (pulseAfter rem dt).rem = rem - dt := if_pos hrem
    rw [hafter]
    exact ⟨fun hn => sub_le_sub_right (h.ge hn) dt,
      fun hclk _ => (h.le hclk hrem).imp_right fun hle => sub_le_sub_right hle dt⟩
  · have hafter : (pulseAfter rem dt).rem = rem := if_neg hrem
    rw [hafter]
    exact ⟨fun hn => (sub_le_self x hdt).trans (h.ge hn), fun _ hpos => absurd hpos hrem⟩

theorem MasterRem.pulse_eq_one {clk x rem : Q} {P n : Nat} (h : MasterRem clk P n x rem)
    (hn : P < n) (hx : 0 < x) : pulse rem = 1 :=
  if_pos (hx.trans_le (h.ge hn))

theorem MasterRem.pulse_eq_zero {clk x rem : Q} {P n : Nat} (h : MasterRem clk P n x rem)
    (hclk : clk ≤ 0) (hx : ¬ (P < n ∧ 0 < x)) : pulse rem = 0 :=
  if_neg fun hrem => hx ((h.le hclk hrem).imp_right hrem.trans_le)

/-! ### Runs of the clock divider -/

/-- R184, R185: `t` is `s` after `n` RUNNING ticks of integer period `P`, with the counter and the step
at 0 in `s`. -/
structure MasterRun (dt : Q) (P : Nat) (s : State) (n : Nat) (t : State) : Prop where
  cnt : t.klok.cnt = (masterCount P n : Q)
  step : t.klok.step.val = (n - 1) / P % 8
  rem : MasterRem s.klok.pgClk.rem P n (1 / 1000 - masterCount P n * dt) t.klok.pgClk.rem
  out : 1 ≤ n → ∃ rem, t.klok.oClk = 10 * pulse rem ∧
    MasterRem s.klok.pgClk.rem P n (1 / 1000 - ((n - 1) % P : Nat) * dt) rem

theorem MasterRun.zero {s : State} (hcnt : s.klok.cnt = 0) (hstep : s.klok.step = 0) (dt : Q) (P : Nat) :
    MasterRun dt P s 0 s where
  cnt := by simp [hcnt]
  step := by simp [hstep]
  rem := .zero _ _ _
  out := nofun

/-- R184: the counter of a run exceeds the period exactly where it stands at it. -/
theorem MasterRun.masterTick_iff {b : KlokOps} {P n : Nat} {s t : State}
    (hperiod : tickPeriod b = (P : Q)) (h : MasterRun b.dt P s n t) :
    MasterTick b t.klok ↔ P ≤ masterCount P n := by
  rw [MasterTick, hperiod, h.cnt, ← Nat.cast_succ, Nat.cast_lt, Nat.lt_succ_iff]

/-- R184: the counters after one more tick. -/
theorem MasterRun.counters_succ {b : KlokOps} {P n : Nat} {s t : State} (hP : 1 ≤ P)
    (hperiod : tickPeriod b = (P : Q)) (h : MasterRun b.dt P s n t) :
    (if MasterTick b t.klok then t.klok.cnt + 1 - tickPeriod b else t.klok.cnt + 1) =
        (masterCount P (n + 1) : Q) ∧
      (if MasterTick b t.klok then Fin.ofNat 8 (t.klok.step.val + 1) else t.klok.step).val =
        n / P % 8 := by
  simp only [h.masterTick_iff hperiod, h.cnt, hperiod]
  rcases masterCount_cases hP n with ⟨hlt, hcount, hdiv⟩ | ⟨heq, hcount, hdiv⟩
  · simp [not_le.mpr hlt, hcount, hdiv, h.step]
  · simp [heq, hcount, hdiv, h.step]

/-- R184, R185: the master pulse that one more tick processes, triggered or left on that tick. -/
theorem MasterRun.rem_succ {b : KlokOps} {P n : Nat} {s t : State} (hdt : 0 ≤ b.dt) (hP : 1 ≤ P)
    (hperiod : tickPeriod b = (P : Q)) (h : MasterRun b.dt P s n t) :
    MasterRem s.klok.pgClk.rem P (n + 1) (1 / 1000 - (n % P : Nat) * b.dt)
      (armed (decide (MasterTick b t.klok)) t.klok.pgClk.rem (1 / 1000)) := by
  simp only [h.masterTick_iff hperiod]
  have hsucc := masterCount_succ P n
  rcases masterCount_cases hP n with ⟨hlt, hcount, -⟩ | ⟨heq, hcount, -⟩
  · have hleft : armed (decide (P ≤ masterCount P n)) t.klok.pgClk.rem (1 / 1000) =
        t.klok.pgClk.rem := by simp [armed, not_le.mpr hlt]
    have hmod : n % P = masterCount P n := by omega
    have hn : n ≠ P := by
      rintro rfl
      exact hlt.ne (masterCount_self hP)
    rw [hleft, hmod]
    exact h.rem.succ hn
  · have hmod : n % P = 0 := by omega
    have hn : P ≤ n := heq.symm.trans_le (Nat.sub_le _ _)
    have hx : 1 / 1000 - (masterCount P n : Q) * b.dt ≤ 1 / 1000 :=
      sub_le_self _ (mul_nonneg (Nat.cast_nonneg _) hdt)
    rw [decide_eq_true heq.ge, hmod, Nat.cast_zero, zero_mul, sub_zero]
    exact h.rem.trigger hx hn

theorem MasterRun.succ {b : KlokOps} {P n : Nat} {s t : State}
    (hlegal : LegalOperands (.tickKlok b)) (hrun : b.run = true) (hP : 1 ≤ P)
    (hperiod : tickPeriod b = (P : Q)) (h : MasterRun b.dt P s n t) :
    ∃ t', exec (.tickKlok b) t = .next t' ∧ MasterRun b.dt P s (n + 1) t' := by
  have hdt : 0 ≤ b.dt := hlegal.1.1
  obtain ⟨hcnt, hstep⟩ := h.counters_succ hP hperiod
  have hrem := h.rem_succ hdt hP hperiod
  have hleft : 1 / 1000 - (masterCount P (n + 1) : Q) * b.dt =
      1 / 1000 - (n % P : Nat) * b.dt - b.dt := by
    rw [masterCount_succ]
    push_cast
    ring
  refine ⟨_, exec_tickKlok hlegal t, ?_⟩
  rw [klokTick_running hrun]
  exact {
    cnt := hcnt
    step := hstep
    rem := hleft ▸ hrem.process hdt
    out := fun _ => ⟨_, rfl, hrem⟩ }

/-- Settles O47: the run is one of `MasterRun`, and the output follows the pulse that the last tick
processes. -/
theorem masterPulseEveryPeriod : Obligations.MasterPulseEveryPeriod := by
  intro b P n s hlegal hrun hP hperiod hcnt hstep
  obtain ⟨t, hexec, ht⟩ := execAll_map_run (tick := .tickKlok) (ops := List.replicate n b)
    (Run := fun os => MasterRun b.dt P s os.length) (.zero hcnt hstep b.dt P) fun hmem _ h => by
      rw [List.eq_of_mem_replicate hmem, List.length_append]
      exact h.succ hlegal hrun hP hperiod
  rw [List.map_replicate] at hexec
  rw [List.length_replicate] at ht
  refine ⟨t, hexec, ht.cnt, ht.step, fun hn hlt => ?_, fun hclk hn hquiet => ?_⟩
  · obtain ⟨rem, hout, hrem⟩ := ht.out (by omega)
    rw [hout, hrem.pulse_eq_one (by omega) (sub_pos.mpr hlt), mul_one]
  · obtain ⟨rem, hout, hrem⟩ := ht.out hn
    rw [hout, hrem.pulse_eq_zero hclk fun h => hquiet ⟨by omega, sub_pos.mp h.2⟩, mul_zero]

end Sys2Proof.Proofs
end

section
/-!
PROOFS. The family 45_step_sequencer: one tick of the step sequencer (spec/45_step_sequencer R200 to
R205), one equation per part of the tick, then a run of trigger edges whose substitution probability is
not positive (R203, S9). That run is an induction on the edges, each a tick that arms the detector and
one that advances the sequential step.
-/

namespace Sys2Proof.Proofs

open Sys2Proof Sys2Proof.Machine Sys2Proof.Safety Sys2Proof.Claims

/-! ### The parts of a tick in the words of the claims -/

/-- R201: the reset part. -/
theorem secuReset_eq (b : SecuOps) (q : Secu) :
    secuReset b q = { q with edRst := edAfter q.edRst b.rstIn, step := stepAfterReset b q } := by
  simp only [secuReset, edProc_eq, decide_eq_true_eq, stepAfterReset]

/-- R202: a randomized cell follows its own draw. -/
theorem randomGrid_get (b : SecuOps) (a : Fin 40) :
    (randomGrid b)[a] = if b.uCell[a] < b.sparse then 1 else 0 := by
  simp [randomGrid, happens]

/-- R202: the lockout counter after the randomization part. -/
def randLockAfter (b : SecuOps) (q : Secu) : Q :=
  if RandomizeGoes b q then b.sr / 4
  else if 1 / 100 ≤ b.randBtn then max 0 (min (q.randLock - 1) b.sr)
  else q.randLock

/-- R108, R202: whether the randomize button acts, and its lockout after the randomization part. -/
theorem secu_lockout_eq (b : SecuOps) (q : Secu) :
    lockout (pressed b.randBtn) q.prevRand q.randLock b.sr =
      (decide (RandomizeGoes b q), randLockAfter b q) :=
  lockout_decide_eq (1 / 100 ≤ b.randBtn) _ _ _

/-- R202: the randomization part. -/
theorem secuRandomize_eq (b : SecuOps) (q : Secu) :
    secuRandomize b q =
      { q with
        randLock := randLockAfter b q
        prevRand := b.randBtn
        edRand := edAfter q.edRand b.randIn
        grid := if Randomizes b q then randomGrid b else q.grid } := by
  rw [secuRandomize, secu_lockout_eq, edProc_eq]
  simp only [← Bool.decide_or, decide_eq_true_eq]

/-- R203: the trigger part. -/
theorem secuTrigger_eq (b : SecuOps) (q : Secu) :
    secuTrigger b q =
      { q with
        edTrig := edAfter q.edTrig b.trigIn
        outStep := if Edge q.edTrig b.trigIn then nextOutStep b q.step else q.outStep
        step := if Edge q.edTrig b.trigIn then Fin.ofNat 8 ((q.step.val + 1) % b.nsteps)
          else q.step } := by
  rw [secuTrigger, edProc_eq]
  by_cases h : Edge q.edTrig b.trigIn
  · simp [h]
  · simp [h]

/-- R201 to R203: the step sequencer as the tick's output part finds it. -/
def secuMoved (b : SecuOps) (q : Secu) : Secu :=
  { q with
    grid := if Randomizes b q then randomGrid b else q.grid
    step := if Edge q.edTrig b.trigIn then Fin.ofNat 8 (((stepAfterReset b q).val + 1) % b.nsteps)
      else stepAfterReset b q
    outStep := if Edge q.edTrig b.trigIn then nextOutStep b (stepAfterReset b q) else q.outStep
    randLock := randLockAfter b q
    prevRand := b.randBtn
    edTrig := edAfter q.edTrig b.trigIn
    edRst := edAfter q.edRst b.rstIn
    edRand := edAfter q.edRand b.randIn }

/-- R200: the three parts before the outputs. -/
theorem secuTick_eq (b : SecuOps) (q : Secu) : secuTick b q = secuOutputs b (secuMoved b q) := by
  rw [secuTick, secuReset_eq, secuRandomize_eq, secuTrigger_eq]
  rfl

/-- R200: what a tick with legal operands answers. -/
theorem exec_tickSecu {b : SecuOps} (h : LegalOperands (.tickSecu b)) (s : State) :
    exec (.tickSecu b) s = .next (s.setSecu (secuOutputs b (secuMoved b s.secu))) := by
  rw [← secuTick_eq]
  exact withLegal_next.mpr ⟨(secuProblem_none b).mpr h, rfl⟩

/-! ### The result of a tick -/

/-- R202: the grid after the tick, cell by cell. -/
theorem secuMoved_cell (b : SecuOps) (q : Secu) (i : Fin 8) (j : Fin 5) :
    (secuMoved b q).cell i j =
      if Randomizes b q then (if b.uCell[gridAddr i j] < b.sparse then 1 else 0) else q.cell i j := by
  rw [← randomGrid_get]
  exact apply_ite (fun grid : Vector Q 40 => grid[gridAddr i j]) (Randomizes b q) _ _

theorem secuMoved_of_not_edge {b : SecuOps} {q : Secu} (h : ¬ Edge q.edTrig b.trigIn) :
    (secuMoved b q).step = stepAfterReset b q ∧ (secuMoved b q).outStep = q.outStep :=
  ⟨if_neg h, if_neg h⟩

/-- R203: on a trigger edge the sequential index advances whatever the draws are. -/
theorem secuMoved_step_of_edge {b : SecuOps} {q : Secu} (h : Edge q.edTrig b.trigIn)
    (hlegal : LegalOperands (.tickSecu b)) :
    (secuMoved b q).step.val = ((stepAfterReset b q).val + 1) % b.nsteps := by
  obtain ⟨-, hpos, hle, -⟩ := hlegal
  have hlt : ((stepAfterReset b q).val + 1) % b.nsteps < 8 := (Nat.mod_lt _ hpos).trans_le hle
  rw [secuMoved, if_pos h]
  exact Nat.mod_eq_of_lt hlt

theorem secuMoved_outStep_of_edge {b : SecuOps} {q : Secu} (h : Edge q.edTrig b.trigIn) :
    (secuMoved b q).outStep = nextOutStep b (stepAfterReset b q) :=
  if_pos h

/-- R203: the output step of a trigger edge in the words of the claims. -/
theorem nextOutStep_eq (b : SecuOps) (step : Fin 8) :
    nextOutStep b step =
      if b.uProb < clamp01 (b.prob + b.probCv) then Fin.ofNat 8 ⌊b.uStep * (b.nsteps : Q)⌋₊
      else step := by
  have hdraw : happens b.uProb (substitution b) =
      decide (b.uProb < clamp01 (b.prob + b.probCv)) := rfl
  simp only [nextOutStep, hdraw, decide_eq_true_eq]

/-- R203: a substitution takes the step that the draw selects; it is one of the eight. -/
theorem nextOutStep_of_substitution {b : SecuOps} (hlegal : LegalOperands (.tickSecu b))
    (h : b.uProb < clamp01 (b.prob + b.probCv)) (step : Fin 8) :
    ((nextOutStep b step).val : Int) = ⌊b.uStep * (b.nsteps : Q)⌋ := by
  obtain ⟨-, hpos, hle, -, ⟨hu0, hu1⟩, -⟩ := hlegal
  have hn : (0 : Q) < b.nsteps := Nat.cast_pos.mpr hpos
  have hx : 0 ≤ b.uStep * (b.nsteps : Q) := mul_nonneg hu0 hn.le
  have hlt : ⌊b.uStep * (b.nsteps : Q)⌋₊ < 8 :=
    ((Nat.floor_lt hx).mpr (mul_lt_of_lt_one_left hn hu1)).trans_le hle
  have hval : (nextOutStep b step).val = ⌊b.uStep * (b.nsteps : Q)⌋₊ := by
    rw [nextOutStep_eq, if_pos h]
    exact Nat.mod_eq_of_lt hlt
  rw [hval, Int.natCast_floor_eq_floor hx]

theorem nextOutStep_of_no_substitution {b : SecuOps} (h : ¬ b.uProb < clamp01 (b.prob + b.probCv))
    (step : Fin 8) : nextOutStep b step = step := by
  rw [nextOutStep_eq, if_neg h]

/-- R204: the column outputs. -/
theorem secuOutputs_oCol (b : SecuOps) (q : Secu) (c : Fin 5) :
    (secuOutputs b q).oCol[c] =
      if b.outConn[c] = true ∧ 1 / 10 ≤ q.cell q.outStep c then b.trigIn else 0 := by
  simp [secuOutputs, columnOut, cellOn, GRID_TH]

/-- R205: the step lights. -/
theorem secuOutputs_oLight (b : SecuOps) (q : Secu) (i : Fin 8) :
    (secuOutputs b q).oLight[i] = if i = q.outStep then 1 else 0 := by
  simp [secuOutputs]

/-- Settles O49: the parts of the tick, field by field. -/
theorem secuTickResult : Obligations.SecuTickResult := by
  intro b s hlegal
  refine ⟨_, exec_tickSecu hlegal s, rfl, rfl, rfl, rfl, rfl, secuMoved_cell b s.secu,
    secuMoved_of_not_edge, fun h => ⟨secuMoved_step_of_edge h hlegal, fun hsub => ?_, fun hsub => ?_⟩,
    secuOutputs_oCol b _, secuOutputs_oLight b _⟩
  · exact (secuMoved_outStep_of_edge h) ▸ nextOutStep_of_substitution hlegal hsub _
  · exact (secuMoved_outStep_of_edge h).trans (nextOutStep_of_no_substitution hsub _)

/-! ### Trigger edges without a substitution -/

/-- R102: an input at or below 0 V arms the detector, whatever its state. -/
theorem edAfter_of_nonpos {v : Q} (h : v ≤ 0) (c : Ed) : edAfter c v = { state := .low } := by
  have hlow : ¬ 1 ≤ v := by linarith
  simp [edAfter, h, hlow]

theorem stepAfterReset_of_lt {b : SecuOps} (h : b.rstIn < 1) (q : Secu) :
    stepAfterReset b q = q.step :=
  if_neg fun hedge => h.not_ge hedge.2

/-- R88, R203: without a positive probability no legal draw makes a substitution. -/
theorem not_substitution {b : SecuOps} (hlegal : LegalOperands (.tickSecu b))
    (hprob : b.prob + b.probCv ≤ 0) : ¬ b.uProb < clamp01 (b.prob + b.probCv) := by
  obtain ⟨-, -, -, ⟨hu, -⟩, -⟩ := hlegal
  have hzero : clamp01 (b.prob + b.probCv) = 0 := clamp_of_le hprob zero_le_one
  rw [hzero]
  exact hu.not_gt

/-- S9: a trigger edge of the run, a tick at or below 0 V and one at or above 1 V, with no reset edge
and no probability of a substitution on the second. -/
def PlainEdge (n : Nat) (o : SecuOps × SecuOps) : Prop :=
  LegalOperands (.tickSecu o.1) ∧ LegalOperands (.tickSecu o.2) ∧ o.1.trigIn ≤ 0 ∧
    1 ≤ o.2.trigIn ∧ o.1.rstIn < 1 ∧ o.2.rstIn < 1 ∧ o.2.prob + o.2.probCv ≤ 0 ∧ o.2.nsteps = n

/-- R102, R203: the first tick arms the detector and keeps the sequential step. -/
theorem secuMoved_low {b : SecuOps} (htrig : b.trigIn ≤ 0) (hrst : b.rstIn < 1) (q : Secu) :
    (secuMoved b q).edTrig.state = .low ∧ (secuMoved b q).step = q.step := by
  have hedge : ¬ Edge q.edTrig b.trigIn := fun h => by linarith [h.2]
  obtain ⟨hstep, -⟩ := secuMoved_of_not_edge hedge
  exact ⟨congrArg Ed.state (edAfter_of_nonpos htrig _), hstep.trans (stepAfterReset_of_lt hrst q)⟩

/-- R203: the two ticks of an edge output the sequential step and advance it. -/
theorem execAll_plainEdge {n : Nat} {o : SecuOps × SecuOps} (h : PlainEdge n o) (s : State)
    (is : List Instr) :
    ∃ t : State, execAll (.tickSecu o.1 :: .tickSecu o.2 :: is) s = execAll is t ∧
      t.secu.outStep = s.secu.step ∧ t.secu.step.val = (s.secu.step.val + 1) % n := by
  obtain ⟨hlegal1, hlegal2, hlow, hhigh, hrst1, hrst2, hprob, rfl⟩ := h
  obtain ⟨harmed, hkept⟩ := secuMoved_low hlow hrst1 s.secu
  have hedge : Edge (secuMoved o.1 s.secu).edTrig o.2.trigIn := ⟨harmed, hhigh⟩
  have hstep := (stepAfterReset_of_lt hrst2 (secuMoved o.1 s.secu)).trans hkept
  have hexec := execAll_cons_of_next (exec_tickSecu hlegal1 s)
  refine ⟨_, (hexec _).trans (execAll_cons_of_next (exec_tickSecu hlegal2 _) is), ?_, ?_⟩
  · exact ((secuMoved_outStep_of_edge hedge).trans
      (nextOutStep_of_no_substitution (not_substitution hlegal2 hprob) _)).trans hstep
  · exact hstep ▸ secuMoved_step_of_edge hedge hlegal2

/-- Settles O50: the induction on the edges; the first one outputs the step at the start, and the rest
is the run from the next step. -/
theorem noSubstitutionWithoutProbability : Obligations.NoSubstitutionWithoutProbability := by
  intro n ops s hops hne hlt
  induction ops generalizing s with
  | nil => exact absurd rfl hne
  | cons o os ih =>
    rw [List.forall_mem_cons] at hops
    obtain ⟨t, hexec, hout, hstep⟩ := execAll_plainEdge hops.1 s
      (os.flatMap fun o => [.tickSecu o.1, .tickSecu o.2])
    cases os with
    | nil =>
      refine ⟨t, hexec, ?_, hstep⟩
      rw [hout]
      exact (Nat.mod_eq_of_lt hlt).symm
    | cons p ps =>
      have hlt' : t.secu.step.val < n := hstep ▸ Nat.mod_lt _ (by omega)
      obtain ⟨u, hrun, hout', hstep'⟩ := ih t hops.2 (List.cons_ne_nil p ps) hlt'
      refine ⟨u, hexec.trans hrun, ?_, ?_⟩
      · simp only [hout', hstep, List.length_cons, ← Nat.add_assoc, Nat.add_sub_cancel,
          Nat.mod_add_mod, Nat.add_right_comm _ 1]
      · rw [hstep', hstep, Nat.mod_add_mod, List.length_cons (as := p :: ps), Nat.add_right_comm,
          Nat.add_assoc]

end Sys2Proof.Proofs
end

section
/-!
PROOFS. The family 46_scene_crossfader: the scan (spec/46_scene_crossfader R224), one tick with and without
a trigger edge that is acted on (R220 to R231), then the finished sequence (R223, R226) and the range of the
column outputs (R230, S8). The scan is an induction on the number of scenes; a tick is one equation per part,
in the words of the claims.
-/

namespace Sys2Proof.Proofs

open Sys2Proof Sys2Proof.Machine Sys2Proof.Safety Sys2Proof.Claims

/-! ### The scan -/

@[simp] theorem lengthsBefore_zero (b : ScenerOps) : lengthsBefore b 0 = 0 := by simp [lengthsBefore]

theorem lengthsBefore_succ (b : ScenerOps) (k : Fin 6) :
    lengthsBefore b (k.val + 1) = lengthsBefore b k.val + b.len[k] := by
  have hsplit : ∀ s : Fin 6, (if s.val < k.val + 1 then b.len[s] else 0) =
      (if s.val < k.val then b.len[s] else 0) + (if s = k then b.len[s] else 0) := by
    intro s
    rcases lt_trichotomy s k with h | rfl | h
    · simp [Fin.lt_def.mp h, Nat.lt_succ_of_lt (Fin.lt_def.mp h), h.ne]
    · simp
    · simp [not_lt.mpr (Fin.lt_def.mp h).le, not_lt.mpr (Nat.succ_le_of_lt (Fin.lt_def.mp h)), h.ne']
  simp only [lengthsBefore, hsplit, Finset.sum_add_distrib, Finset.sum_ite_eq', Finset.mem_univ, if_true]

theorem lengthsBefore_mono (b : ScenerOps) {j k : Nat} (h : j ≤ k) :
    lengthsBefore b j ≤ lengthsBefore b k := by
  refine Finset.sum_le_sum fun s _ => ?_
  by_cases hs : s.val < j
  · simp [hs, hs.trans_le h]
  · simp [hs]

theorem activeScenes_succ :
    ∀ k : Fin 6, activeScenes (k.val + 1) = activeScenes k.val ++ [k] := by decide

/-- R224: the scan of one scene more. -/
theorem sceneScan_succ (b : ScenerOps) (n : Nat) (cur : Fin 6) {k : Nat} (hk : k < 6) :
    sceneScan { b with nscenes := k + 1 } n cur =
      (if n > (sceneScan { b with nscenes := k } n cur).2 then ⟨k, hk⟩
        else (sceneScan { b with nscenes := k } n cur).1,
       (sceneScan { b with nscenes := k } n cur).2 + b.len[k]) := by
  rw [sceneScan, activeScenes_succ ⟨k, hk⟩, List.foldl_append]
  rfl

/-- R224: the total after the first `k` scenes. -/
theorem sceneScan_total (b : ScenerOps) (n : Nat) (cur : Fin 6) {k : Nat} (hk : k ≤ 6) :
    (sceneScan { b with nscenes := k } n cur).2 = lengthsBefore b k := by
  induction k with
  | zero => exact (lengthsBefore_zero b).symm
  | succ k ih =>
    rw [sceneScan_succ b n cur hk, ih (Nat.le_of_succ_le hk)]
    exact (lengthsBefore_succ b ⟨k, hk⟩).symm

/-- R224: what is selected stays selected when a scene follows, unless the count lies above the total. -/
theorem selected_succ {b : ScenerOps} {n k : Nat} {s : Fin 6}
    (h : Selected { b with nscenes := k } n s) (hn : n ≤ lengthsBefore b k) :
    Selected { b with nscenes := k + 1 } n s := by
  obtain ⟨hs, hlow, hhigh⟩ := h
  refine ⟨Nat.lt_succ_of_lt hs, hlow, .inl ?_⟩
  rcases hhigh with hhigh | (hlast : s.val + 1 = k)
  · exact hhigh
  · exact hlast ▸ hn

theorem selected_last {b : ScenerOps} {n k : Nat} (hk : k < 6) (h : lengthsBefore b k < n) :
    Selected { b with nscenes := k + 1 } n ⟨k, hk⟩ :=
  ⟨Nat.lt_succ_self k, h, .inr rfl⟩

/-- R224: the scene the scan of `k + 1` scenes answers; scene 0 is taken at any count of 1 on. -/
theorem selected_sceneScan (b : ScenerOps) {n : Nat} (cur : Fin 6) (hn : 1 ≤ n) {k : Nat} (hk : k < 6) :
    Selected { b with nscenes := k + 1 } n (sceneScan { b with nscenes := k + 1 } n cur).1 := by
  induction k with
  | zero =>
    have hfirst : lengthsBefore b 0 < n := (lengthsBefore_zero b).trans_lt hn
    rw [sceneScan_succ b n cur hk, sceneScan_total b n cur (Nat.zero_le 6), if_pos hfirst]
    exact selected_last hk hfirst
  | succ k ih =>
    rw [sceneScan_succ b n cur hk, sceneScan_total b n cur hk.le]
    split_ifs with h
    · exact selected_last hk h
    · exact selected_succ (ih (Nat.lt_of_succ_lt hk)) (not_lt.mp h)

/-- R224: the cumulative ranges do not overlap. -/
theorem selected_le {b : ScenerOps} {n : Nat} {s r : Fin 6} (hs : Selected b n s) (hr : Selected b n r) :
    r ≤ s := by
  obtain ⟨-, -, hhigh⟩ := hs
  obtain ⟨hactive, hlow, -⟩ := hr
  by_contra! hlt
  have hmono : lengthsBefore b (s.val + 1) ≤ lengthsBefore b r.val := lengthsBefore_mono b hlt
  omega

/-- Settles O51: the scan selects by induction on the number of scenes; the ranges do not overlap. -/
theorem sceneScanSelects : Obligations.SceneScanSelects := by
  intro b n cur hn hpos hle
  obtain ⟨k, hk⟩ := Nat.exists_eq_add_of_le' hpos
  have hsel : Selected b n (sceneScan b n cur).1 := by
    have h := selected_sceneScan b cur hn (k := k) (by omega)
    rwa [← hk] at h
  exact ⟨hsel, fun _ hs => le_antisymm (selected_le hsel hs) (selected_le hs hsel), sceneScan_total b n cur hle⟩

/-! ### The parts of a tick in the words of the claims -/

/-- R228: the alerts of the current scene. -/
theorem scenerAlerts_eq (b : ScenerOps) (c : Scener) :
    scenerAlerts b c =
      { c with
        pgAlert := Vector.ofFn fun j =>
          { rem := armed (decide (MarkerAt b c.cur j c.sceneSteps)) c.pgAlert[j].rem (1 / 1000) } } := by
  simp only [← pgTrig_armed, decide_eq_true_eq]
  rfl

/-- R221: the startup alerts. -/
theorem scenerStart_eq (b : ScenerOps) (c : Scener) :
    scenerStart b c =
      { c with
        starting := false
        pgAlert := Vector.ofFn fun j => { rem := alertAfterStart b c j } } := by
  cases h : c.starting with
  | true => simp [scenerStart, h, scenerAlerts_eq, alertAfterStart]
  | false =>
    have hkept : (Vector.ofFn fun j => { rem := alertAfterStart b c j }) = c.pgAlert := by
      ext j hj
      simp [alertAfterStart, h, armed]
    rw [hkept, scenerStart, if_neg (by simp [h]), ← h]

/-- R222: the reset part. -/
theorem scenerReset_eq (b : ScenerOps) (c : Scener) :
    scenerReset b c =
      { c with
        edRst := edAfter c.edRst b.rstIn
        cur := curAfterReset b c
        steps := stepsAfterReset b c
        finished := finishedAfterReset b c } := by
  have hreset : (pressed b.rstBtn || decide (Edge c.edRst b.rstIn)) = decide (SceneReset b c) :=
    (Bool.decide_or _ _).symm
  rw [scenerReset, edProc_eq, hreset]
  by_cases h : SceneReset b c
  · simp only [h, curAfterReset, stepsAfterReset, finishedAfterReset, decide_true, if_true]
  · simp only [h, curAfterReset, stepsAfterReset, finishedAfterReset, decide_false, if_false,
      Bool.false_eq_true]

/-- R221, R222: the crossfader as the trigger part finds it. -/
def scenerReady (b : ScenerOps) (c : Scener) : Scener :=
  { c with
    cur := curAfterReset b c
    steps := stepsAfterReset b c
    finished := finishedAfterReset b c
    starting := false
    edRst := edAfter c.edRst b.rstIn
    pgAlert := Vector.ofFn fun j => { rem := alertAfterStart b c j } }

theorem scenerReset_scenerStart (b : ScenerOps) (c : Scener) :
    scenerReset b (scenerStart b c) = scenerReady b c := by
  rw [scenerReset_eq, scenerStart_eq]
  rfl

/-- R223: the trigger part. -/
theorem scenerTrigger_eq (b : ScenerOps) (c : Scener) :
    scenerTrigger b c =
      if Edge c.edTrig b.trigIn ∧ c.finished = false then
        scenerAdvance b { c with edTrig := edAfter c.edTrig b.trigIn }
      else { c with edTrig := edAfter c.edTrig b.trigIn } := by
  rw [scenerTrigger, edProc_eq]
  simp only [Bool.and_eq_true, decide_eq_true_eq, Bool.not_eq_true']

/-- R225, R226: the wrap and the finish. -/
theorem scenerWrap_eq (b : ScenerOps) (total : Nat) (c : Scener) :
    scenerWrap b total c =
      { c with
        steps := if b.loop = true then c.steps % total else c.steps
        finished := decide (b.loop = false ∧ total ≤ c.steps) || c.finished
        ramp := { val := if b.loop = false ∧ total ≤ c.steps then 0 else c.ramp.val } } := by
  cases h : b.loop with
  | true => simp [scenerWrap, h]
  | false =>
    by_cases hend : total ≤ c.steps
    · simp [scenerWrap, h, hend, Rp.clr]
    · simp [scenerWrap, h, hend]

/-- R227: the scene change. -/
theorem scenerChange_eq (c : Scener) :
    scenerChange c =
      { c with
        sceneSteps := if c.cur ≠ c.prev then 0 else c.sceneSteps
        ramp := { val := if c.cur ≠ c.prev then 0 else c.ramp.val } } := by
  rw [scenerChange]
  by_cases h : c.cur ≠ c.prev
  · simp only [if_pos h, Rp.clr]
  · simp only [if_neg h]

/-- R229: the ramp. -/
theorem scenerRamp_eq (b : ScenerOps) (c : Scener) :
    scenerRamp b c = { c with ramp := { val := rampAfter b c.ramp.val } } := by
  rw [scenerRamp, rampAfter]
  by_cases h : b.ttime ≤ 0
  · simp only [if_pos h]
  · simp only [if_neg h]
    rfl

/-- R229 to R231: the ramp and the outputs, after the startup, of a crossfader whose detectors have
been processed. -/
theorem scenerOutputs_eq {b : ScenerOps} {c d : Scener} (hstart : d.starting = false)
    (htrig : d.edTrig = edAfter c.edTrig b.trigIn) (hrst : d.edRst = edAfter c.edRst b.rstIn) :
    scenerOutputs b (scenerRamp b d) =
      scenerAfter b c d.cur d.prev d.steps d.sceneSteps (rampAfter b d.ramp.val) d.finished
        (fun j => d.pgAlert[j].rem) := by
  rw [scenerRamp_eq, scenerOutputs, scenerAfter, hstart, htrig, hrst]
  simp only [pgProc_eq]
  rfl

/-- R220: what a tick with legal operands answers. -/
theorem exec_tickScener {b : ScenerOps} (h : LegalOperands (.tickScener b)) (s : State) :
    exec (.tickScener b) s =
      .next (s.setScener (scenerOutputs b (scenerRamp b (scenerTrigger b (scenerReady b s.scener))))) := by
  rw [← scenerReset_scenerStart]
  exact withLegal_next.mpr ⟨(scenerProblem_none b).mpr h, rfl⟩

/-! ### The result of a tick -/

/-- R223: without an edge that is acted on the trigger part only processes the detector. -/
theorem scenerTrigger_scenerReady_of_not_edge {b : ScenerOps} {c : Scener} (h : ¬ SceneEdge b c) :
    scenerTrigger b (scenerReady b c) =
      { scenerReady b c with edTrig := edAfter c.edTrig b.trigIn } :=
  (scenerTrigger_eq b _).trans (if_neg h)

/-- R223: an edge that is acted on. -/
theorem scenerTrigger_scenerReady_of_edge {b : ScenerOps} {c : Scener} (h : SceneEdge b c) :
    scenerTrigger b (scenerReady b c) =
      scenerAdvance b { scenerReady b c with edTrig := edAfter c.edTrig b.trigIn } :=
  (scenerTrigger_eq b _).trans (if_pos h)

/-- Settles O52: the startup and the reset part, then the ramp and the outputs. -/
theorem scenerTickWithoutEdge : Obligations.ScenerTickWithoutEdge := by
  intro b s hlegal hedge
  rw [exec_tickScener hlegal, scenerTrigger_scenerReady_of_not_edge hedge,
    scenerOutputs_eq (c := s.scener) rfl rfl rfl]
  simp only [scenerReady, Fin.getElem_fin, Vector.getElem_ofFn]
  rfl

/-- R223 to R228: what an edge does to an unfinished sequence when the scan answers `sel` and `total`. -/
theorem scenerAdvance_eq {b : ScenerOps} {c : Scener} {sel : Fin 6} {total : Nat}
    (hscan : sceneScan b (c.steps + 1) c.cur = (sel, total)) (hfin : c.finished = false) :
    scenerAdvance b c =
      scenerAlerts b { c with
        cur := sel
        prev := c.cur
        steps := if b.loop = true then (c.steps + 1) % total else c.steps + 1
        sceneSteps := if sel ≠ c.cur then 0 else c.sceneSteps + 1
        finished := decide (b.loop = false ∧ total ≤ c.steps + 1)
        ramp := { val := if decide (b.loop = false ∧ total ≤ c.steps + 1) = true ∨ sel ≠ c.cur then 0
          else c.ramp.val } } := by
  simp only [scenerAdvance, scenerCount, scenerScan, hscan, scenerWrap_eq, scenerChange_eq, hfin,
    Bool.or_false, decide_eq_true_eq, or_comm (b := sel ≠ c.cur), ite_or]

/-- Settles O53: the scan answers `sel` and the total (O51), and the rest is the parts of the tick. -/
theorem scenerTickWithEdge : Obligations.ScenerTickWithEdge := by
  intro b s sel n total sub fin hlegal hedge hn htotal hsel hsub hfin
  have ⟨_, hpos, hle, _⟩ := hlegal
  obtain ⟨-, honly, hsum⟩ := sceneScanSelects b n (curAfterReset b s.scener) (by omega) hpos hle
  have hscan : sceneScan b n (curAfterReset b s.scener) = (sel, total) :=
    Prod.ext (honly sel hsel).symm (hsum.trans htotal.symm)
  subst hn hsub hfin
  rw [exec_tickScener hlegal, scenerTrigger_scenerReady_of_edge hedge,
    scenerAdvance_eq (c := { scenerReady b s.scener with edTrig := _ }) hscan hedge.2, scenerAlerts_eq,
    scenerOutputs_eq (c := s.scener) rfl rfl rfl]
  simp only [scenerReady, Fin.getElem_fin, Vector.getElem_ofFn]
  rfl

/-! ### The finished sequence -/

/-- R223, R226: the sequence of `t` is finished where the one of `s` stands. -/
def FinishedAt (s t : State) : Prop :=
  t.scener.finished = true ∧ t.scener.steps = s.scener.steps ∧
    t.scener.sceneSteps = s.scener.sceneSteps ∧ t.scener.cur = s.scener.cur ∧
    t.scener.prev = s.scener.prev

theorem not_sceneReset {b : ScenerOps} (hbtn : b.rstBtn < 1 / 100) (hin : b.rstIn < 1) (c : Scener) :
    ¬ SceneReset b c :=
  not_or.mpr ⟨hbtn.not_ge, fun hedge => hin.not_ge hedge.2⟩

/-- R222, R223: a tick without a reset acts on no edge of a finished sequence. -/
theorem FinishedAt.tick {b : ScenerOps} {s t : State} (h : FinishedAt s t)
    (hlegal : LegalOperands (.tickScener b)) (hreset : ¬ SceneReset b t.scener) :
    ∃ t', exec (.tickScener b) t = .next t' ∧ FinishedAt s t' := by
  obtain ⟨hfin, hsteps, hscene, hcur, hprev⟩ := h
  have hfin' : finishedAfterReset b t.scener = true := (if_neg hreset).trans hfin
  have hedge : ¬ SceneEdge b t.scener := fun hedge => Bool.false_ne_true (hedge.2.symm.trans hfin')
  exact ⟨_, scenerTickWithoutEdge b t hlegal hedge, hfin', (if_neg hreset).trans hsteps, hscene,
    (if_neg hreset).trans hcur, hprev⟩

/-- Settles O54: each tick of the run is one without an edge that is acted on. -/
theorem finishedStateIsTerminal : Obligations.FinishedStateIsTerminal := fun _ s hops hfin =>
  execAll_map_run (Run := fun _ => FinishedAt s) ⟨hfin, rfl, rfl, rfl, rfl⟩ fun hmem _ h =>
    have ⟨hlegal, hbtn, hin⟩ := hops _ hmem
    h.tick hlegal (not_sceneReset hbtn hin _)

/-! ### The range of the column outputs -/

/-- R101: between two values of a range, `xfade` stays in it. -/
theorem xfade_mem_Icc {lo hi x y p : Q} (hx : x ∈ Set.Icc lo hi) (hy : y ∈ Set.Icc lo hi)
    (hp : InUnit p) : xfade x y p ∈ Set.Icc lo hi := by
  rw [xfade_eq, mul_comm x, mul_comm y]
  exact convex_Icc lo hi hx hy (sub_nonneg.mpr hp.2) hp.1 (sub_add_cancel 1 p)

/-- R230: a column lies between its two scene inputs, or between the previous one and 0. -/
theorem sceneColumn_mem_Icc {b : ScenerOps} {c : Scener} {lo hi : Q} (hzero : 0 ∈ Set.Icc lo hi)
    (hinp : ∀ k : Fin 30, b.inp[k] ∈ Set.Icc lo hi) (hramp : InUnit c.ramp.val) (col : Fin 5) :
    sceneColumn b c col ∈ Set.Icc lo hi := by
  have hfinished : sceneInput b c.prev col * (1 - c.ramp.val) =
      xfade (sceneInput b c.prev col) 0 c.ramp.val := by rw [xfade_eq, zero_mul, add_zero]
  rw [sceneColumn, hfinished]
  split_ifs
  · exact xfade_mem_Icc (hinp _) hzero hramp
  · exact xfade_mem_Icc (hinp _) (hinp _) hramp

/-- Settles O55: the ramp is in `[0,1]` after its advance, and a column lies between values in range. -/
theorem sceneOutputsStayInRange : Obligations.SceneOutputsStayInRange := by
  intro b s t _ hinp hexec c
  obtain ⟨-, hnext⟩ := withLegal_next.mp hexec
  cases hnext
  simp only [State.setScener_scener, scenerTick, scenerOutputs, Fin.getElem_fin, Vector.getElem_ofFn]
  exact sceneColumn_mem_Icc (by norm_num) hinp (scenerRamp_unit b _) c

end Sys2Proof.Proofs
end

section
/-!
PROOFS. The family 47_adjacent_units: the hold length of the decimator (spec/47_adjacent_units R250, R251)
and the mix bus (R252). The decimator's run is one induction over its ticks, which keeps the held sample and
counts them; the mix bus's list of connected voices is turned into the sums over all five.
-/

namespace Sys2Proof.Proofs

open Sys2Proof Sys2Proof.Machine Sys2Proof.Safety Sys2Proof.Claims

/-! ### Runs of the decimator -/

/-- R251: what every tick of a run at intensity `q` is. -/
def DecimateTick (q : Q) (b : FxOps) : Prop :=
  LegalOperands (.tickDecimate b) ∧ Connected b ∧ effectIntensity b = q

theorem DecimateTick.nonneg {q : Q} {b : FxOps} (h : DecimateTick q b) : 0 ≤ q := by
  obtain ⟨-, -, rfl⟩ := h
  exact effectIntensity_nonneg b

/-- R250: one tick of a run, in any state. -/
theorem DecimateTick.exec_next {q : Q} {b : FxOps} (h : DecimateTick q b) (s : State) :
    ∃ t, exec (.tickDecimate b) s = .next t ∧ t.decim = decimate b.inp q s.decim := by
  obtain ⟨hlegal, hconn, rfl⟩ := h
  exact ⟨_, exec_tickDecimate_connected hlegal hconn rfl, rfl⟩

/-- R251: from a re-sample, fewer than `N` ticks hold the sample and count themselves. -/
theorem execAll_tickDecimate_hold {q : Q} {ops : List FxOps} {s : State} (hcnt : s.decim.cnt = 0)
    (hops : ∀ b ∈ ops, DecimateTick q b) (hlen : (ops.length : Int) < max 1 ⌊q * 32⌋) :
    ∃ t, execAll (ops.map .tickDecimate) s = .next t ∧
      t.decim = { cnt := ops.length, held := s.decim.held } := by
  refine execAll_map_run (Run := fun os t => t.decim = { cnt := os.length, held := s.decim.held })
    (by rw [List.length_nil, ← hcnt]) fun {os b t} hmem hlt ht => ?_
  obtain ⟨t', hexec, ht'⟩ := (hops b hmem).exec_next t
  have hhold : ¬ ⌊q * 32⌋ ≤ (t.decim.cnt : Int) + 1 := by
    have hcount : t.decim.cnt = os.length := congrArg Decim.cnt ht
    omega
  refine ⟨t', hexec, ?_⟩
  rw [ht', decimate_hold (hops b hmem).nonneg hhold, ht, List.length_append, List.length_singleton]

/-- Settles O37: the ticks before the `max(1, N)`-th hold, and the one after them finds the counter at its
end. -/
theorem decimateHoldsForNTicks : Obligations.DecimateHoldsForNTicks := by
  intro ops last q s hcnt hops
  have hheld := execAll_tickDecimate_hold hcnt fun b hb => hops b (List.mem_append_left _ hb)
  refine ⟨fun hlen => ?_, fun hlen => ?_⟩
  · obtain ⟨t, hexec, ht⟩ := hheld hlen
    exact ⟨t, hexec, by rw [ht], by rw [ht]⟩
  · obtain ⟨t, hexec, ht⟩ := hheld (by omega)
    have hlast : DecimateTick q last := hops last (by simp)
    obtain ⟨t', hexec', ht'⟩ := hlast.exec_next t
    have hend : ⌊q * 32⌋ ≤ (t.decim.cnt : Int) + 1 := by
      have hcount : t.decim.cnt = ops.length := congrArg Decim.cnt ht
      omega
    rw [decimate_resample hlast.nonneg hend] at ht'
    refine ⟨t', ?_, by rw [ht'], by rw [ht']⟩
    rw [List.map_append, List.map_singleton, execAll_concat_of_next hexec, hexec']

/-! ### The mix bus -/

/-- R252: a sum over the connected voices, as a sum over all five. -/
theorem sum_connectedVoices (b : MixOps) (f : Fin 5 → Q) :
    ((connectedVoices b).map f).sum = ∑ v : Fin 5, if b.conn[v] = true then f v else 0 := by
  have hall : allFive = List.finRange 5 := by decide
  rw [Fin.sum_univ_def, List.sum_map_ite, connectedVoices, hall]
  simp

theorem length_connectedVoices (b : MixOps) :
    ((connectedVoices b).length : Q) = ∑ v : Fin 5, if b.conn[v] = true then (1 : Q) else 0 := by
  rw [← sum_connectedVoices b fun _ => 1]
  simp

theorem mix_mul_length (b : MixOps) :
    mix b * ((connectedVoices b).length : Q) = ((connectedVoices b).map fun v => b.vout[v]).sum := by
  rw [mix]
  split_ifs with hnone
  · simp [List.eq_nil_of_length_eq_zero hnone]
  · exact div_mul_cancel₀ _ (Nat.cast_ne_zero.mpr hnone)

/-- R252: none connected, the output is 0. -/
theorem mix_eq_zero {b : MixOps} (h : ∀ v : Fin 5, b.conn[v] = false) : mix b = 0 := by
  have hnone : connectedVoices b = [] := List.filter_eq_nil_iff.mpr fun v _ => by simp [h v]
  rw [mix, hnone, List.length_nil, if_pos rfl]

/-- Settles O56: the mean of the connected voices, its sum and their number taken over all five. -/
theorem mixbusResult : Obligations.MixbusResult := by
  intro b s hdt hsr
  refine ⟨mix b, withLegal_next.mpr ⟨(rateProblem_none b.dt b.sr).mpr ⟨hdt, hsr⟩, rfl⟩, ?_, mix_eq_zero⟩
  rw [← length_connectedVoices, mix_mul_length, sum_connectedVoices]

end Sys2Proof.Proofs
end

section
/-!
PROOFS. The family 48_system_ops: `NOP` and the edges without a command (spec/48_system_ops R260), `RESET`
(R261) and `GWR` (R262). The state after reset is at rest unit by unit, and being at rest is not about the
edges the host has still to present.
-/

namespace Sys2Proof.Proofs

open Sys2Proof Sys2Proof.Machine Sys2Proof.Safety Sys2Proof.Claims

/-! ### NOP and idle edges -/

/-- Settles O4: the step on no edge and on an edge without a command. -/
theorem nopAndIdleEdgesChangeNothing : Obligations.NopAndIdleEdgesChangeNothing := by
  intro s
  refine ⟨rfl, fun hnil => ?_, fun e es hcons hrst hvalid => ?_⟩
  · simp [step, nextEdge_nil s hnil]
  · simp [step, nextEdge_cons s e es hcons, hrst, hvalid, State.setInputs]

/-! ### Reset -/

/-- R91, R291: every output register is 0 after reset. -/
theorem readOut_reset (r : OutReg) : readOut State.reset r = 0 := by
  cases r with
  | voiceOsc v | voiceAmp v | voiceEnv v | voiceEnvB v | voiceGate v | voiceLight v =>
    rw [readOut, reset_voice_get]
    rfl
  | fx i | klokDiv i | secuCol i | secuLight i | scenerCol i | scenerAlert i | scenerAlight i =>
    exact Vector.getElem_replicate i.isLt
  | klokClk | klokRst | klokLight | mix => rfl

/-- Settles O8: an element of a vector of reset values is one, and every other field is given by
`State.reset`. -/
theorem resetStateIsAtRest : Obligations.ResetStateIsAtRest := by
  have hgrid (i : Fin 8) (j : Fin 5) : State.reset.secu.cell i j = 0 :=
    Vector.getElem_replicate (gridAddr i j).isLt
  have halert (j : Fin 2) : State.reset.scener.pgAlert[j] = Pg.reset :=
    Vector.getElem_replicate j.isLt
  refine ⟨readOut_reset, fun v => ?_, fun _ => rfl, reset_memory_wf, rfl, rfl, rfl, rfl, rfl, rfl, rfl,
    rfl, rfl, rfl, rfl, rfl, rfl, rfl, hgrid, rfl, rfl, rfl, rfl, rfl, rfl, rfl, rfl, rfl, rfl, rfl, rfl,
    rfl, rfl, rfl, rfl, fun j => congrArg Pg.rem (halert j)⟩
  rw [reset_voice_get]
  exact ⟨rfl, rfl, rfl, rfl, rfl, rfl, rfl⟩

theorem readOut_setInputs (s : State) (es : List ClockEdge) (r : OutReg) :
    readOut (s.setInputs es) r = readOut s r := by
  cases r <;> rfl

/-- R291: being at rest is of the block's fields, not of the host's edges (log 4). -/
theorem atReset_setInputs {s : State} (h : AtReset s) (es : List ClockEdge) :
    AtReset (s.setInputs es) :=
  ⟨fun r => (readOut_setInputs s es r).trans (h.1 r), h.2⟩

theorem atReset_resetBlock (s : State) : AtReset (resetBlock s) :=
  atReset_setInputs resetStateIsAtRest s.inputs

/-- Settles O7: `RESET` puts the block in the state after reset. -/
theorem resetCommandResetsEverything : Obligations.ResetCommandResetsEverything := fun s =>
  ⟨resetBlock s, rfl, atReset_resetBlock s⟩

/-! ### The grid -/

/-- R61: two cells of the grid have different addresses. -/
theorem gridAddr_eq_iff (i : Fin 8) (j : Fin 5) {s c : Nat} (hc : c ≤ 4) :
    5 * s + c = (gridAddr i j).val ↔ i.val = s ∧ j.val = c := by
  change 5 * s + c = 5 * i.val + j.val ↔ _
  omega

/-- R262: what a cell reads after a grid write. -/
theorem cell_gridWrite {b : GwrOps} (hc : b.c ≤ 4) (q : Secu) (i : Fin 8) (j : Fin 5) :
    (gridWrite b q).cell i j = if i.val = b.s ∧ j.val = b.c then b.level else q.cell i j := by
  simp only [Secu.cell, gridWrite, Fin.getElem_fin, Vector.getElem_setIfInBounds,
    gridAddr_eq_iff i j hc]

/-- Settles O48: the write completes, and is of one address. -/
theorem gridWriteWritesOneCell : Obligations.GridWriteWritesOneCell := fun b s hs hc =>
  ⟨(gridWrite b s.secu).grid, withLegal_next.mpr ⟨if_pos ⟨hs, hc⟩, rfl⟩, cell_gridWrite hc s.secu⟩

end Sys2Proof.Proofs
end

section
/-!
PROOFS. The family 60_exceptions: every command with legal operands completes (spec/60_exceptions R276),
so no run from a state of the invariant faults (R270), and the commands of different units commute (R275).
The only command with a fault in it is the glitch, which its buffer's invariant rules out; that two
commands commute follows from their locality (R3) alone.
-/

namespace Sys2Proof.Proofs

open Sys2Proof Sys2Proof.Machine Sys2Proof.Safety Sys2Proof.Claims

/-! ### Completion -/

/-- R65, R165: no cursor of a reachable buffer addresses an element that does not exist. -/
theorem glitchEffect_ne_error {g : Glitch} (h : GlitchInv g) (inp q : Q) (d : FxDraws) (f : Fault) :
    glitchEffect inp q d g ≠ .error f := by
  rcases glitchEffect_cases inp q d g with
      ⟨-, -, e⟩ | ⟨hf, hwr, -⟩ | ⟨-, -, -, e⟩ | ⟨-, hthr, hrd, -⟩ | ⟨-, -, -, e⟩ | ⟨-, -, -, e⟩
  · simp [e]
  · exact absurd (h.fillPhase hf).1 hwr.not_gt
  · simp [e]
  · have hlt : (g.rd : Q) < (CAP : Q) := hthr.trans h.thrBelowCap
    exact absurd (Nat.cast_lt.mp hlt) hrd.not_gt
  · simp [e]
  · simp [e]

theorem withLegal_fault {p : Option OperandProblem} {run : StepOutcome} {f : Fault}
    (h : withLegal p run = .fault f) : run = .fault f := by
  cases p with
  | none => exact h
  | some q => cases h

/-- R140: an effect command faults only with its effect. -/
theorem fxWrapper_fault {e : Fin 5} {b : FxOps} {effect : Q → Except Fault (State × Q)} {s : State}
    {f : Fault} (h : fxWrapper e b effect s = .fault f) : effect (intensity b) = .error f := by
  rcases fxWrapper_cases e b effect s with ⟨-, hn⟩ | ⟨-, -, ⟨g, he, hn⟩ | ⟨t, y, -, hn⟩⟩ <;>
    rw [hn] at h <;> cases h
  exact he

/-- R270, R276: no command faults, `TICK.GLITCH` not in a buffer that meets its invariant. -/
theorem exec_ne_fault {i : Instr} {s : State}
    (hg : (∃ b d, i = .tickGlitch b d) → GlitchInv s.glitch) (f : Fault) : exec i s ≠ .fault f := by
  intro h
  cases i with
  | nop | reset => cases h
  | tickBitcrush | tickDecimate | tickDistort | tickCrop =>
    cases fxWrapper_fault (withLegal_fault h)
  | tickGlitch b d =>
    have he := fxWrapper_fault (withLegal_fault h)
    rcases hgl : glitchEffect b.inp (intensity b) d s.glitch with f' | ⟨g, y⟩
    · exact glitchEffect_ne_error (hg ⟨b, d, rfl⟩) _ _ _ _ hgl
    · simp [hgl] at he
  | _ => cases withLegal_fault h

/-- Settles O10: a command is the legality guard before an outcome that is a next state or a fault, and it
has no fault. -/
theorem legalCommandsComplete : Obligations.LegalCommandsComplete := by
  intro i s hlegal hg
  obtain ⟨run, hexec, hrun⟩ := exec_eq_withLegal i s
  rw [(problem_eq_none_iff i).mpr hlegal, withLegal_none] at hexec
  obtain ⟨f, rfl⟩ | ⟨t, rfl, -⟩ := hrun
  · exact absurd hexec (exec_ne_fault hg f)
  · exact ⟨t, hexec⟩

/-! ### Runs -/

/-- R88, R276: in a state of the invariant a command completes or is refused for its operands. -/
theorem exec_completes_or_refused (i : Instr) {s : State} (hs : StateInv s) :
    (∃ t, exec i s = .next t) ∨ ∃ p, exec i s = .refused (.illegalOperand p) := by
  by_cases hlegal : LegalOperands i
  · exact .inl (legalCommandsComplete i s hlegal fun _ => hs.glitch)
  · exact .inr ((illegalOperandsRefused i s).1.mpr hlegal)

/-- R83, R88, R270: in a state of the invariant a step answers a next state or one of the two refusals the
spec asks for. -/
theorem step_completes_or_refused {s : State} (hs : StateInv s) :
    (∃ t, step s = .next t) ∨ ∃ r, step s = .refused r ∧ SpecRefusal r := by
  rcases step_cases s with
    ⟨-, e⟩ | ⟨_, es, -, ⟨-, e⟩ | ⟨-, -, e⟩ | ⟨-, -, ⟨i, -, e⟩ | ⟨w, -, e⟩⟩⟩
  · exact .inl ⟨_, e⟩
  · exact .inl ⟨_, e⟩
  · exact .inl ⟨_, e⟩
  · rw [e]
    exact (exec_completes_or_refused i (stateInv_setInputs hs es)).imp_right
      fun ⟨p, hp⟩ => ⟨_, hp, .inr ⟨p, rfl⟩⟩
  · exact .inr ⟨_, e, .inl ⟨w, rfl⟩⟩

/-- Settles O15, by induction on the length of the run: where a step completes, the invariant holds
again. -/
theorem runsNeverFault : Obligations.RunsNeverFault := by
  intro n
  induction n with
  | zero => exact fun _ _ => trivial
  | succ n ih =>
    intro s hs
    rw [Safe]
    rcases step_completes_or_refused hs with ⟨t, ht⟩ | ⟨r, hr, hspec⟩
    · rw [ht]
      exact ih t (stepKeepsInvariant s t hs ht)
    · rw [hr]
      exact hspec

/-! ### Commands of different units -/

theorem sameUnit_symm {s t : State} {u : UnitId} (h : SameUnit s t u) : SameUnit t s u := by
  cases u <;> simp_all [SameUnit]

/-- R2, R40: the state is the units and the host's edges. -/
theorem state_eq_of_sameUnit {s t : State} (h : ∀ u, SameUnit s t u) (hin : t.inputs = s.inputs) :
    t = s := by
  have hvoice : t.voice = s.voice := Vector.ext fun v hv => h (.voice ⟨v, hv⟩)
  have hfx : t.fxOut = s.fxOut := Vector.ext fun e he => fxOut_eq_of_sameUnit (h (effectUnit ⟨e, he⟩))
  obtain ⟨hdecim, -⟩ := h .decimate
  obtain ⟨-, hglitch, -⟩ := h .glitch
  obtain ⟨hcrop, -⟩ := h .crop
  have hklok : t.klok = s.klok := h .klok
  have hsecu : t.secu = s.secu := h .secu
  have hscener : t.scener = s.scener := h .scener
  have hmix : t.mixOut = s.mixOut := h .mixbus
  cases s
  cases t
  simp_all

/-- R3, R275: two meanings local to different units complete in either order, and leave the same units. -/
theorem LocalTo.commute {u v : UnitId} {run run' : State → StepOutcome} (hu : LocalTo u run)
    (hv : LocalTo v run') (huv : u ≠ v) {s t w : State} (ht : run s = .next t)
    (hw : run' t = .next w) :
    ∃ t' w', run' s = .next t' ∧ run t' = .next w' ∧ ∀ x, SameUnit w w' x := by
  obtain ⟨t', ht', hv'⟩ := hv.depends (sameUnit_symm (hu.frame ht huv.symm)) hw
  obtain ⟨w', hw', hu'⟩ := hu.depends (hv.frame ht' huv) ht
  refine ⟨t', w', ht', hw', fun x => ?_⟩
  by_cases hxu : x = u
  · subst hxu
    exact sameUnit_trans (sameUnit_symm (hv.frame hw huv)) hu'
  · have hkept : SameUnit t' w' x := hu.frame hw' hxu
    by_cases hxv : x = v
    · subst hxv
      exact sameUnit_trans hv' hkept
    · have hfirst : SameUnit s w x := sameUnit_trans (hu.frame ht hxu) (hv.frame hw hxv)
      exact sameUnit_trans (sameUnit_symm hfirst) (sameUnit_trans (hv.frame ht' hxv) hkept)

/-- Settles O12: the units agree because the commands are local to different ones, and no command takes or
adds an edge of the host's. -/
theorem commandsOfDifferentUnitsCommute : Obligations.CommandsOfDifferentUnitsCommute := by
  intro i j u v s t w hi hj huv ht hw
  obtain ⟨t', w', ht', hw', hunits⟩ := (exec_localTo hi).commute (exec_localTo hj) huv ht hw
  have hin : w'.inputs = w.inputs := by
    rw [exec_keeps_inputs hw', exec_keeps_inputs ht', exec_keeps_inputs hw, exec_keeps_inputs ht]
  exact ⟨t', ht', state_eq_of_sameUnit hunits hin ▸ hw'⟩

end Sys2Proof.Proofs
end

section
/-!
PROOFS. The family 70_reset_and_hazards: the edge with `rst` (spec/70_reset_and_hazards R290, R291).
-/

namespace Sys2Proof.Proofs

open Sys2Proof Sys2Proof.Machine Sys2Proof.Safety Sys2Proof.Claims

/-- R290: the step of an edge with `rst`. -/
theorem step_of_rst {s : State} {e : ClockEdge} {es : List ClockEdge} (hs : s.inputs = e :: es)
    (hr : e.rst = true) : step s = .next (resetBlock (s.setInputs es)) := by
  simp [step, nextEdge_cons s e es hs, hr]

/-- Settles O6: the edge and the command both reset the block, with the edge taken. -/
theorem resetEdgeAndCommandAreOneEvent : Obligations.ResetEdgeAndCommandAreOneEvent :=
  fun _ _ _ hs hr => ⟨_, step_of_rst hs hr, atReset_resetBlock _, rfl, rfl⟩

end Sys2Proof.Proofs
end
